-- ==== Sys2Proof/Word.lean ====
section
/-! DEFINITION. The value types of the block (spec/00_scope.md R10): every value is an unsigned bit
vector of 8, 16 or 32 bits, and a line level is low or high (spec/10_state.md R24). -/

namespace Sys2Proof

/-- One byte of the host's address space. -/
abbrev Byte := BitVec 8

/-- The spec's `u16`: a data value or a control mask (R7: `DATA_WIDTH`, `MASK_WIDTH`). -/
abbrev Half := BitVec 16

/-- The spec's `u32`: a request word, an address, a count (R7: `ADDR_WIDTH`, `COUNT_WIDTH`). -/
abbrev Word := BitVec 32

/-- The level of one bus line, 0 or 1 (R24). An unknown level `⊥` is `none` of `Option Level` (R11). -/
inductive Level where
  | low
  | high
  deriving DecidableEq, Repr, Inhabited

/-- A port's identity, opaque to the block (spec/10_state.md R21): it is only handed to the GPIO
configuration primitive. -/
abbrev PortId := Nat

end Sys2Proof
end

