-- ==== Sys2Proof/Config.lean ====
section
/-! DEFINITION. What is fixed for one block: the implementation parameters of spec/00_scope.md R7,
the bound configuration of spec/10_state.md R21, the pin/port description BIND reads
(spec/40_binding_init.md R100), and the free draws behind `⊥` (R11). -/

namespace Sys2Proof

/-! ## Fixed parameters (R7) -/

/-- `BATCH`: pulses per batch of the bulk engine (R7, R164). -/
def Config.batch : Nat := 40

/-- `TAIL`: strobe-toggle pairs of the remainder sequence, `BATCH - 1` (R7, R166). -/
def Config.tail : Nat := 39

/-- The four waits of `RESET` in delay units of 1 ms (R7, R120, R122). -/
def Config.settleMs : Nat := 10
def Config.highMs : Nat := 5
def Config.assertMs : Nat := 50
def Config.releaseMs : Nat := 50

/-! ## OPEN parameters (R7, R8; decisions D22, D24). No rule of the model reads the timing triple.

DESIGN CHOICE (log 14), safe: the spec gives the triple no unit and no granularity. The model takes whole hertz
and whole nanoseconds, as natural numbers. -/

/-- `F_CLK`. DESIGN CHOICE (log 14): in whole hertz. -/
opaque Config.fClkHz : Nat
/-- `T_WRL`. DESIGN CHOICE (log 14): in whole nanoseconds. -/
opaque Config.tWrlNs : Nat
/-- `T_WRH`. DESIGN CHOICE (log 14): in whole nanoseconds. -/
opaque Config.tWrhNs : Nat
/-- `PAIR_BYTES`: the "instruction size" of one tail step; no observable effect (D24). -/
opaque Config.pairBytes : Nat

/-- R230: an implementation meets the low time with at least `ceil(T_WRL × F_CLK)` clock cycles
between the two writes of a pulse. -/
def Config.strobeLowCycles : Nat :=
  (Config.tWrlNs * Config.fClkHz + (1000000000 - 1)) / 1000000000

/-! ## Free draws: what an observer sees where the spec has `⊥` (R11, U8, U9; decisions D10, D28; log 2)

The first argument of each names the run observed, so that two runs have draws of their own. -/

/-- A bus line that carries one level (R24). -/
inductive ControlLine where
  | wr
  | rs
  | rst
  deriving DecidableEq, Repr

/-- One observation of a run (R11: "any observation of it is a free draw"): of the `k`th capture (R33), or the
`k`th look at the lines, at the latch record, or at what a fault record holds of either (R202, R233). -/
inductive Look where
  | capture (k : Nat)
  | lines (k : Nat)
  | latchRecord (k : Nat)
  | faultLines (k : Nat)
  | faultLatchRecord (k : Nat)
  deriving DecidableEq, Repr

/-- Whether the event at this position of the trace, a `CS(WR_M)` with WR unknown just before it, is a
WR low-to-high transition (R33, D28). -/
opaque Config.edgeDraw : Nat → Nat → Bool
/-- The data value an observer reads where the observed one is `⊥`. -/
opaque Config.dataDraw : Nat → Look → Half
/-- The level of a line an observer reads where the observed one is `⊥`. -/
opaque Config.levelDraw : Nat → Look → ControlLine → Level

/-! ## The binding -/

/-- `CONTROL_VARIANT` (R9, R104): two disjoint registers, or the two halves of one register. It is an
argument of BIND, chosen at build time. -/
inductive ControlVariant where
  | split
  | halves
  deriving DecidableEq, Repr, Inhabited

/-- The pin/port description `P` of R100, with the collaborator's answers written out as data: whether
the target family is recognised (R105), and the register addresses it resolves (R104). -/
structure PinDescription where
  familyRecognised : Bool
  dataPort : PortId
  controlPort : PortId
  /-- `outputRegisterAddress(P.dataPort)`. -/
  outputRegisterAddress : Word
  /-- `setResetAddresses(P.controlPort, SPLIT)`: the set register, then the reset register. -/
  splitAddresses : Word × Word
  /-- `setResetAddresses(P.controlPort, HALVES)`: the set half, then the reset half. -/
  halvesAddresses : Word × Word
  wrBit : Nat
  rsBit : Nat
  rstBit : Nat
  deriving DecidableEq, Repr

/-- The bound configuration `cfg` (R21), the source's BusContext. -/
structure BusContext where
  controlSetAddress : Word
  controlResetAddress : Word
  dataOutputAddress : Word
  /-- `WR_M`. -/
  writeStrobeMask : Half
  /-- `RS_M`. -/
  registerSelectMask : Half
  /-- `RST_M` (decision D5). -/
  resetMask : Half
  dataPort : PortId
  controlPort : PortId
  deriving DecidableEq, Repr

/-- DESIGN CHOICE (log 1), unsafe if a claim rests on it: the description the reset state is built
from. Every value but one pair is that of the test vectors' binding `B0` (spec/95_test_vectors.md), which
calls them arbitrary. The spec gives no value. `B0` has no `HALVES` pair and R104 leaves open which half sets
and where each lies: that the set half is at 0x10000100 and the reset half at 0x10000102 is the model's own
choice, and the reset state, built with `SPLIT`, does not read it. -/
def Config.bootPins : PinDescription where
  familyRecognised := true
  dataPort := 0
  controlPort := 1
  outputRegisterAddress := 0x10000000
  splitAddresses := (0x10000100, 0x10000104)
  halvesAddresses := (0x10000100, 0x10000102)
  wrBit := 1
  rsBit := 0
  rstBit := 2

/-- The configuration BIND computes from `Config.bootPins` with `SPLIT`: the vectors' `B0` (log 1). -/
def Config.bootContext : BusContext where
  controlSetAddress := 0x10000100
  controlResetAddress := 0x10000104
  dataOutputAddress := 0x10000000
  writeStrobeMask := 0x0002
  registerSelectMask := 0x0001
  resetMask := 0x0004
  dataPort := 0
  controlPort := 1

end Sys2Proof
end

