-- ==== Sys2Proof/Syntax.lean ====
section
/-! DEFINITION. The request inductive of spec/30_encoding.md R75: one constructor per row of the
opcode table. Construction is not a request (R15). -/

namespace Sys2Proof

/-- The seven requests (R15, R75). Every operand has exactly the width of its field (R74), so every
term is a request the block can be given. -/
inductive Instr where
  /-- `writeCommand(cmd)`, R141. -/
  | wrcmd (cmd : Half)
  /-- `writeData(value)`, R142. -/
  | wrdata (value : Half)
  /-- `writeCommand(cmd, param)`, R143. -/
  | wrcmdp (cmd param : Half)
  /-- `writeDataAgain(value)`, R144. -/
  | wragain (value : Half)
  /-- `writeMultiData(count, value)`, R160. -/
  | wrmulti (count : Word) (value : Half)
  /-- `rawTransfer(buffer, numWords)`, R180. -/
  | rawxfer (buffer numWords : Word)
  /-- `reset()`, R120. -/
  | reset
  deriving DecidableEq, Repr

end Sys2Proof
end

