-- ==== Sys2Proof/Machine/State.lean ====
section
/-! DEFINITION. The block's state (spec/10_state.md R20) as plain data, its inputs held beside it, the
reasons the model stops, and the state right after construction (R35, R220). -/

namespace Sys2Proof.Machine

/-! ## Lines and direction (R24, R25) -/

/-- The levels of the 19 bus lines (R24). `none` is the spec's `⊥`, "the absence of a value" (R11). -/
structure Lines where
  d : Option Half
  wr : Option Level
  rs : Option Level
  rst : Option Level
  deriving DecidableEq, Repr

/-- Whether the data lines and the control lines are push-pull outputs (R25). -/
structure Dir where
  data : Bool
  ctrl : Bool
  deriving DecidableEq, Repr

/-! ## The sequencer (R27) -/

/-- The register-select mode of a transaction (R14): RS low is command mode, RS high data mode. -/
inductive BusMode where
  | command
  | data
  deriving DecidableEq, Repr

/-- The four micro-steps of a full transaction (R140). -/
inductive TxStep where
  | latch
  | select
  | strobeLow
  | strobeHigh
  deriving DecidableEq, Repr

/-- The values of `seq.step` (R121, R140, R161, R182). The index of `BATCH_LOW(k)` and `BATCH_HIGH(k)` is
`eng.k`, of `TAIL_LOW(j)` and `TAIL_HIGH(j)` it is `eng.j`, of `READ(i)` it is `raw.i`: each number has one
home. In which step each register changes is log 18. -/
inductive MicroStep where
  | rstSettle
  | rstHigh
  | rstHighWait
  | rstAssert
  | rstAssertWait
  | rstRelease
  | rstReleaseWait
  /-- The contract test of `WRAGAIN`, `WRMULTI` and `RAWXFER`. -/
  | check
  /-- A step of a transaction. The mode tells the halves of a `WRCMDP` apart; a strobe-only `WRAGAIN`
  uses the last two steps of the data-mode transaction. -/
  | tx (mode : BusMode) (t : TxStep)
  | entryTest
  | batchLow
  | batchHigh
  | batchTest
  | dispatch
  | tailLow
  | tailHigh
  | done
  | read
  deriving DecidableEq, Repr

/-- The sequencer: `seq.phase` with `seq.req` and `seq.step`, which are `⊥` while the phase is IDLE (R27, R35). -/
inductive Seq where
  | idle
  | busy (req : Instr) (step : MicroStep)
  deriving DecidableEq, Repr

/-! ## Working registers and the latch record (R28, R29, R30) -/

/-- The bulk engine's registers (R28), `⊥` outside a `WRMULTI`. -/
structure Eng where
  /-- Pulses still to emit before the remainder dispatch. -/
  rem : Option Word
  /-- Pulses emitted so far in the current batch, 0..40. -/
  k : Option (BitVec 6)
  /-- The tail entry index, 0..39. -/
  entry : Option (BitVec 6)
  /-- The position in the tail sequence, 0..39. -/
  j : Option (BitVec 6)
  deriving DecidableEq, Repr

/-- The raw transfer's registers (R29), `⊥` outside a `RAWXFER`. -/
structure Raw where
  /-- The index of the next buffer element. -/
  i : Option Word
  /-- The element last read. -/
  word : Option Half
  deriving DecidableEq, Repr

/-- Every engine register `⊥`. -/
def Eng.unknown : Eng := ⟨none, none, none, none⟩

/-- Both raw-transfer registers `⊥`. -/
def Raw.unknown : Raw := ⟨none, none⟩

/-- Every line `⊥`: the block before construction. -/
def Lines.unknown : Lines := ⟨none, none, none, none⟩

/-- The record of the last data latch (R30). -/
structure Ghost where
  lastData : Option Half
  deriving DecidableEq, Repr

/-! ## Fault record and trace (R31, R32, R202) -/

/-- The `info` of a fault record, which tells its code too (R202). -/
inductive FaultInfo where
  | illegalOpcode (h : Word)
  | illegalReserved (h : Word)
  | contractWragain (value : Half) (lastData : Option Half) (d : Option Half) (rs : Option Level)
  | contractWrmulti (count : Word) (value : Half) (d : Option Half) (rs : Option Level)
  | contractBuffer (buffer numWords : Word)
  | incompleteRequest (h : Word)
  deriving DecidableEq, Repr

/-- The code of R202. -/
def FaultInfo.code : FaultInfo → Nat
  | .illegalOpcode _ => 1
  | .illegalReserved _ => 2
  | .contractWragain _ _ _ _ => 3
  | .contractWrmulti _ _ _ _ => 4
  | .contractBuffer _ _ => 5
  | .incompleteRequest _ => 6

/-- A record `(code, reqIndex, info)` of `faults` (R31, R201). -/
structure FaultRecord where
  reqIndex : Nat
  info : FaultInfo
  deriving DecidableEq, Repr

/-- The record's code (R201). -/
def FaultRecord.code (f : FaultRecord) : Nat := f.info.code

/-- The bus events, one kind per micro-operation (R32). -/
inductive Event where
  | cfg (port : PortId) (mask : Half)
  | dw (v : Half)
  | cs (m : Half)
  | cr (m : Half)
  | delay (n : Nat)
  | read (a : Word) (v : Half)
  deriving DecidableEq, Repr

/-! ## Launch memory (spec/20_memory.md R67) -/

/-- The launch memory: the bytes it admits, at strictly rising addresses. An address that is not listed
is not admitted. -/
abbrev Memory := List Host.Cell

/-- What an unlisted address reads as: no value, it is not admitted (R67; log 7, safe). -/
def Memory.unlisted : Option Byte := none

/-! ## The state (R20) -/

/-- The spec's tuple (R20), and the block's inputs held as data: the request words the host has presented
and the block has not accepted (`port`, R70), the position of the request in flight or next (`reqIndex`,
R201), and the launch memory (`mem`, R67). -/
structure State where
  cfg : BusContext
  lines : Lines
  dir : Dir
  seq : Seq
  eng : Eng
  raw : Raw
  ghost : Ghost
  faults : List FaultRecord
  trace : List Event
  port : List Word
  reqIndex : Nat
  mem : Memory
  deriving DecidableEq, Repr

/-! ## Why the model stops -/

/-- A stop in a state no run from reset reaches; the spec gives no rule there. Every one is safe: the
model stops where nothing is said. -/
inductive Fault where
  /-- Raised by every meaning: `seq.step` names a micro-step that the request's table (R121, R140, R161,
  R182) does not have. Safe. -/
  | noMicroStep
  /-- Raised by `RAWXFER`: its table reads `raw.i` or `raw.word` while the register is `⊥` (R29). Safe. -/
  | rawUnknown
  /-- Raised by `RAWXFER`'s READ: the address is not admitted. "A read of an unadmitted address never
  happens: the check faults first" (R67). Safe. -/
  | readUnadmitted
  deriving DecidableEq, Repr

/-- Why an instruction is refused. -/
inductive Refusal where
  /-- Raised by `exec` for an instruction that has no meaning yet. Safe. -/
  | notModelled (mnemonic : String)
  /-- Raised by every meaning when another request is in flight: "a run that breaks them has no move in the
  model" (spec/60_exceptions.md R211 (2), decision D34). `step` never does this. Safe. -/
  | interleaved
  deriving DecidableEq, Repr

/-- The state right after construction (R35, R103, R220), for the binding `Config.bootContext` (log 1),
with nothing presented on the port (log 3) and a launch memory that admits nothing (log 7). -/
def State.reset : State where
  cfg := Config.bootContext
  lines := ⟨none, some .high, none, none⟩
  dir := ⟨true, true⟩
  seq := .idle
  eng := Eng.unknown
  raw := Raw.unknown
  ghost := ⟨none⟩
  faults := []
  trace := [.cfg 0 0xFFFF, .cfg 1 0x0007, .cs 0x0002]
  port := []
  reqIndex := 0
  mem := []

end Sys2Proof.Machine
end

