-- ==== Sys2Proof/Machine/Ops.lean ====
section
/-! DEFINITION. The named operations every request is made of: the micro-operations (spec/00_scope.md
R12), raising a fault (spec/60_exceptions.md R201), moving the sequencer (spec/10_state.md R27), the latch
record (R30), and reading the launch memory (spec/20_memory.md R57, R67). -/

namespace Sys2Proof.Machine

/-! ## The three GPIO registers (R52, R53, R54) -/

/-- Drive high the bus lines whose bit is 1 in `m`, leave the others (R53). UNVERIFIED: the spec's own
general knowledge (D6, G1; log 9). -/
def Lines.driveHigh (c : BusContext) (m : Half) (l : Lines) : Lines :=
  { l with
    wr := if m &&& c.writeStrobeMask ≠ 0 then some .high else l.wr
    rs := if m &&& c.registerSelectMask ≠ 0 then some .high else l.rs
    rst := if m &&& c.resetMask ≠ 0 then some .high else l.rst }

/-- Drive low the bus lines whose bit is 1 in `m`, leave the others (R54; log 9). -/
def Lines.driveLow (c : BusContext) (m : Half) (l : Lines) : Lines :=
  { l with
    wr := if m &&& c.writeStrobeMask ≠ 0 then some .low else l.wr
    rs := if m &&& c.registerSelectMask ≠ 0 then some .low else l.rs
    rst := if m &&& c.resetMask ≠ 0 then some .low else l.rst }

/-- The lines after one bus event. A data write sets all 16 data lines (R52); a delay, a buffer read and
a port configuration drive no line. -/
def Lines.after (c : BusContext) (l : Lines) : Event → Lines
  | .dw v => { l with d := some v }
  | .cs m => l.driveHigh c m
  | .cr m => l.driveLow c m
  | .cfg _ _ => l
  | .delay _ => l
  | .read _ _ => l

/-- Perform one micro-operation: the lines change as its event says and the event is appended to the
trace (R12, R32). One event, one change, nothing between (R55, R61). -/
def State.emit (e : Event) (s : State) : State :=
  { s with lines := s.lines.after s.cfg e, trace := s.trace ++ [e] }

/-- `DW(v)`: latch `v` onto the data port (R12, R52). -/
def State.dw (v : Half) (s : State) : State := s.emit (.dw v)

/-- `CS(m)`: drive the control lines in `m` high (R12, R53). -/
def State.cs (m : Half) (s : State) : State := s.emit (.cs m)

/-- `CR(m)`: drive the control lines in `m` low (R12, R54). -/
def State.cr (m : Half) (s : State) : State := s.emit (.cr m)

/-- `DLY(n)`: the delay service, at least `n` ms (R12, R209). Only its event is modelled (log 14). -/
def State.dly (n : Nat) (s : State) : State := s.emit (.delay n)

/-- `CFG(p, m)`: the GPIO configuration primitive (R12, D36). Only its event is modelled. -/
def State.cfgPort (p : PortId) (m : Half) (s : State) : State := s.emit (.cfg p m)

/-- STROBE_LOW: `CR(WR_M)` (R140). -/
def State.strobeLow (s : State) : State := s.cr s.cfg.writeStrobeMask

/-- STROBE_HIGH: `CS(WR_M)` (R140). -/
def State.strobeHigh (s : State) : State := s.cs s.cfg.writeStrobeMask

/-- SELECT: RS low for command mode, high for data mode (R14, R140). -/
def State.select (mode : BusMode) (s : State) : State :=
  match mode with
  | .command => s.cr s.cfg.registerSelectMask
  | .data => s.cs s.cfg.registerSelectMask

/-- The level of RS in each mode (R14, R24). -/
def BusMode.level : BusMode → Level
  | .command => .low
  | .data => .high

/-! ## Raising a fault (R201)

The block has no trap: this is the whole of "taking an exception". -/

/-- `raise Fault(code, info)`: append a record naming the request. No control is transferred, nothing else
is saved or changed (R201). -/
def State.raise (info : FaultInfo) (s : State) : State :=
  { s with faults := s.faults ++ [⟨s.reqIndex, info⟩] }

/-! ## The sequencer and the latch record -/

/-- `seq.step <- m` while the request `i` is in flight (R27). -/
def State.goto (i : Instr) (m : MicroStep) (s : State) : State := { s with seq := .busy i m }

/-- `seq.phase <- IDLE`: the request has ended, the next one has the next position in the stream (R27,
R201). -/
def State.finish (s : State) : State := { s with seq := .idle, reqIndex := s.reqIndex + 1 }

/-- `ghost.lastData <- v` (R30). -/
def State.latched (v : Option Half) (s : State) : State := { s with ghost := ⟨v⟩ }

/-- Run the micro-step the sequencer names for the request `i`, by the request's own `table`. In IDLE the
request is accepted and its `first` micro-step performed (log 4). A request never runs while another is in
flight (R211 (2), D34). -/
def State.microStep (i : Instr) (first : MicroStep)
    (table : MicroStep → Host.Outcome State Fault Refusal) (s : State) :
    Host.Outcome State Fault Refusal :=
  match s.seq with
  | .idle => table first
  | .busy j m => if j = i then table m else .refused .interleaved

/-- One micro-step of a full transaction that latches `x` in the given mode (R140). `ending` is what the
request does in the step of STROBE_HIGH, its last. -/
def State.transaction (i : Instr) (mode : BusMode) (x : Half) (ending : State → State)
    (t : TxStep) (s : State) : State :=
  match t with
  | .latch => (s.dw x).goto i (.tx mode .select)
  | .select => (s.select mode).goto i (.tx mode .strobeLow)
  | .strobeLow => s.strobeLow.goto i (.tx mode .strobeHigh)
  | .strobeHigh => ending s.strobeHigh

/-! ## The launch memory (R57, R67) -/

/-- The byte at an address, if it is admitted. -/
def Memory.readByte (m : Memory) (a : Nat) : Option Byte :=
  match m with
  | [] => Memory.unlisted
  | (a', b) :: rest => if a' = a then some b else Memory.readByte rest a

/-- The 16-bit element at a byte address, low byte first (R57). UNVERIFIED: the spec's own general
knowledge (D20, G4; log 8). It is admitted exactly when both its bytes are (log 7). -/
def Memory.read16 (m : Memory) (a : Nat) : Option Half :=
  match m.readByte a, m.readByte (a + 1) with
  | some lo, some hi => some (hi ++ lo)
  | _, _ => none

/-- The listed addresses rise strictly from at least `lo` on, inside the 32-bit address space (R50). -/
def Memory.wfFrom (lo : Nat) : Memory → Bool
  | [] => true
  | (a, _) :: rest => lo ≤ a && a < 2 ^ 32 && Memory.wfFrom (a + 1) rest

/-- The canonical form: addresses strictly rising and inside the 32-bit address space (R50). No entry can
equal what an unlisted address reads as, since that is no value. -/
def Memory.wf (m : Memory) : Bool := m.wfFrom 0

/-- The host puts a byte into the launch memory, keeping the canonical form. No request does (R50): this is
how a launch memory is laid out before a run. -/
def Memory.admitByte (a : Word) (b : Byte) : Memory → Memory
  | [] => [(a.toNat, b)]
  | (a', b') :: rest =>
    if a.toNat < a' then (a.toNat, b) :: (a', b') :: rest
    else if a' = a.toNat then (a.toNat, b) :: rest
    else (a', b') :: Memory.admitByte a b rest

/-- The host puts a 16-bit element into the launch memory, low byte first (log 8). -/
def Memory.admit16 (a : Word) (v : Half) (m : Memory) : Memory :=
  (m.admitByte a (v.extractLsb' 0 8)).admitByte (a + 1) (v.extractLsb' 8 8)

end Sys2Proof.Machine
end

