-- ==== Sys2Proof/WellFormed.lean ====
section
/-! DEFINITION. The checks a thing must pass before the machine may be given it: a binding
(spec/40_binding_init.md R101) and an assembly operand (spec/30_encoding.md R81). A term of `Instr`
needs no check: each operand is a bit vector of exactly its field's width (R74). Reserved bits are
checked where words are read (Sys2Proof/Decode.lean, R77). -/

namespace Sys2Proof

/-- A control mask has exactly one bit set: it is `1 << p` for a bit position `p` of the port (R101 (1)). -/
def oneBit (m : Half) : Bool :=
  (List.range 16).any fun p => m == (1#16 <<< p)

/-- A register address is 2-byte aligned (R101 (4), R58). -/
def aligned2 (a : Word) : Bool := !a.getLsbD 0

/-- The validity of a binding, checked by BIND (R101; decision D4). -/
def BusContext.valid (c : BusContext) : Bool :=
  -- (1) each mask has exactly one bit set
  oneBit c.writeStrobeMask && oneBit c.registerSelectMask && oneBit c.resetMask
  -- (2) the masks are pairwise different
  && c.writeStrobeMask != c.registerSelectMask && c.writeStrobeMask != c.resetMask
  && c.registerSelectMask != c.resetMask
  -- (3) the data port is not the control port
  && c.dataPort != c.controlPort
  -- (4) the register addresses are pairwise different and each is 2-byte aligned
  && c.dataOutputAddress != c.controlSetAddress && c.dataOutputAddress != c.controlResetAddress
  && c.controlSetAddress != c.controlResetAddress
  && aligned2 c.dataOutputAddress && aligned2 c.controlSetAddress && aligned2 c.controlResetAddress

/-- A 16-bit assembly operand lies in `0..0xFFFF` (R81). -/
def fits16 (n : Nat) : Bool := n < 2 ^ 16

/-- A 32-bit assembly operand lies in `0..0xFFFFFFFF` (R81). -/
def fits32 (n : Nat) : Bool := n < 2 ^ 32

/-- The count of `fill` lies in `0..2^32`, so that `n - 1` fits in 32 bits when `n >= 1` (R82). -/
def fitsFill (n : Nat) : Bool := n ≤ 2 ^ 32

end Sys2Proof
end

