-- ==== Sys2Proof/Machine/Operands.lean ====
section
/-! DEFINITION. The one operand form that reaches memory: the transfer buffer of a `RAWXFER`
(spec/20_memory.md R50, R57, spec/44_raw_transfer.md R181, R182). All other operands are literal fields
of the request (spec/30_encoding.md R74). -/

namespace Sys2Proof.Machine

/-- The byte address of buffer element `i`: `buffer + 2i` (R74, R182), on `u32` (R10). -/
def elementAddress (buffer i : Word) : Word := buffer + 2 * i

/-- Every element of the range is admitted: `n` elements from byte address `a` on (R181 (3), R67). -/
def Memory.admitsRange (m : Memory) (a : Nat) : Nat → Bool
  | 0 => true
  | n + 1 => (m.read16 a).isSome && Memory.admitsRange m (a + 2) n

/-- No byte of `[b, b + 2n)` is a byte of the 2-byte register at `r` (R181 (4)). -/
def clearOf (b n r : Word) : Bool := r.toNat + 2 ≤ b.toNat || b.toNat + 2 * n.toNat ≤ r.toNat

/-- `bufferOK(b, n)` for `n >= 1` (R181, R58, R59; decision D15). -/
def bufferOK (c : BusContext) (m : Memory) (b n : Word) : Bool :=
  -- (1) aligned
  aligned2 b
  -- (2) no wrap
  && b.toNat + 2 * n.toNat ≤ 2 ^ 32
  -- (4) clear of the three registers
  && clearOf b n c.dataOutputAddress && clearOf b n c.controlSetAddress
  && clearOf b n c.controlResetAddress
  -- (3) admitted throughout
  && m.admitsRange b.toNat n.toNat

end Sys2Proof.Machine
end

