-- ==== Sys2Proof/Machine/Flags.lean ====
section
/-! DEFINITION. The block "has no flags, condition codes or predicates" (spec/10_state.md R34). What it
tests are the contracts of three requests (spec/60_exceptions.md R203) and the engine's count
(spec/43_bulk_transfer.md R163, R165); those tests stand here. A comparison with `⊥` is false
(spec/00_scope.md R11). -/

namespace Sys2Proof.Machine

/-- The `WRAGAIN` contract: the port holds the value of the last data-mode latch (R144, D12). -/
def State.wragainOk (value : Half) (s : State) : Bool := s.ghost.lastData == some value

/-- The `WRMULTI` contract: `lines.D = value` and `lines.RS = 1`, both known; asked only when `count >= 1`
(R162, D13). -/
def State.wrmultiOk (count : Word) (value : Half) (s : State) : Bool :=
  count == 0 || (s.lines.d == some value && s.lines.rs == some .high)

/-- The `RAWXFER` contract, asked only when `numWords >= 1` (R180, R181). -/
def State.rawxferOk (buffer numWords : Word) (s : State) : Bool :=
  numWords == 0 || bufferOK s.cfg s.mem buffer numWords

/-- The contract step of `WRAGAIN`: a violated contract is recorded and the request goes on (R144, D11). -/
def State.checkWragain (value : Half) (s : State) : State :=
  if s.wragainOk value then s
  else s.raise (.contractWragain value s.ghost.lastData s.lines.d s.lines.rs)

/-- The contract step of `WRMULTI` (R160, R162, D11). -/
def State.checkWrmulti (count : Word) (value : Half) (s : State) : State :=
  if s.wrmultiOk count value then s
  else s.raise (.contractWrmulti count value s.lines.d s.lines.rs)

/-- The engine's test `eng.rem >= 40` (R163, R165). -/
def Eng.atLeastBatch (e : Eng) : Bool :=
  match e.rem with
  | some r => Config.batch ≤ r.toNat
  | none => false

end Sys2Proof.Machine
end

