-- ==== Sys2Proof/Machine/Bulk.lean ====
section
/-! DEFINITION. The bulk transfer engine (spec/43_bulk_transfer.md): `WRMULTI`, micro-step by micro-step
(R161), with its batch loop (R163 to R165) and its remainder dispatch (R166). -/

namespace Sys2Proof.Machine

/-- Begin a batch: `eng.k` is 0 and the next step is `BATCH_LOW(0)` (R161). -/
def State.enterBatch (i : Instr) (s : State) : State :=
  { s with eng := { s.eng with k := some 0 } }.goto i .batchLow

/-- The branch of the entry test and of the batch test: another batch while at least 40 pulses remain,
else the remainder dispatch (R163, R165). -/
def State.batchOrDispatch (i : Instr) (s : State) : State :=
  if s.eng.atLeastBatch then s.enterBatch i else s.goto i .dispatch

/-- An index lies below 39 (`TAIL`): the pulse of a batch that is not its last (R161), the pair of the tail
that is not past its end (R166). -/
def below39 (n : Option (BitVec 6)) : Bool :=
  match n with
  | some n => n.toNat < Config.tail
  | none => false

/-- After a batch pulse: `eng.k` counts it; `BATCH_LOW(k+1)` if `k < 39`, else `BATCH_TEST` (R161). -/
def State.nextInBatch (i : Instr) (s : State) : State :=
  { s with eng := { s.eng with k := s.eng.k.map (· + 1) } }.goto i
    (if below39 s.eng.k then .batchLow else .batchTest)

/-- `eng.rem <- eng.rem - 40` (R165). -/
def State.takeBatch (s : State) : State :=
  { s with eng := { s.eng with rem := s.eng.rem.map (· - BitVec.ofNat 32 Config.batch) } }

/-- The tail entry index `39 - rem`, in 6 bits (R166, R172). -/
def tailEntry (rem : Word) : BitVec 6 := (BitVec.ofNat 32 Config.tail - rem).setWidth 6

/-- The remainder dispatch: `eng.entry <- 39 - eng.rem`; enter the tail at that pair, or end (R161, R166). -/
def State.enterTail (i : Instr) (s : State) : State :=
  let entry := s.eng.rem.map tailEntry
  { s with eng := { s.eng with entry := entry, j := entry } }.goto i
    (if below39 entry then .tailLow else .done)

/-- After a tail pulse: `TAIL_LOW(j+1)` if `j < 38`, else `DONE` (R161). -/
def State.nextInTail (i : Instr) (s : State) : State :=
  let j := s.eng.j.map (· + 1)
  { s with eng := { s.eng with j := j } }.goto i (if below39 j then .tailLow else .done)

/-- `eng.rem <- count` (R160, R161). -/
def State.loadCount (count : Word) (s : State) : State :=
  { s with eng := { s.eng with rem := some count } }

/-- `eng.* <- ⊥` (R160, R161). -/
def State.clearEng (s : State) : State := { s with eng := Eng.unknown }

/-- The micro-step table of R161, for the request `i`. -/
def State.wrmultiTable (count : Word) (value : Half) (s : State) :
    MicroStep → Host.Outcome State Fault Refusal
  | .check =>
    .next (((s.checkWrmulti count value).loadCount count).goto (.wrmulti count value) .entryTest)
  | .entryTest => .next (s.batchOrDispatch (.wrmulti count value))
  | .batchLow => .next (s.strobeLow.goto (.wrmulti count value) .batchHigh)
  | .batchHigh => .next (s.strobeHigh.nextInBatch (.wrmulti count value))
  | .batchTest => .next (s.takeBatch.batchOrDispatch (.wrmulti count value))
  | .dispatch => .next (s.enterTail (.wrmulti count value))
  | .tailLow => .next (s.strobeLow.goto (.wrmulti count value) .tailHigh)
  | .tailHigh => .next (s.strobeHigh.nextInTail (.wrmulti count value))
  | .done => .next s.clearEng.finish
  | _ => .fault .noMicroStep

/-- `WRMULTI(count, value)` (R160). -/
def execWrmulti (count : Word) (value : Half) (s : State) : Host.Outcome State Fault Refusal :=
  s.microStep (.wrmulti count value) .check (s.wrmultiTable count value)

/-- R166: the byte offset of the dispatch jump, a property of an implementation's code layout with no
observable effect; the model works in pair indices (D24). -/
def dispatchByteOffset (rem : Nat) : Nat := (Config.tail - rem) * Config.pairBytes

end Sys2Proof.Machine
end

