-- ==== Sys2Proof/Machine/RawTransfer.lean ====
section
/-! DEFINITION. `RAWXFER` (spec/44_raw_transfer.md R180 to R183): one full data transaction per buffer
element, in order. -/

namespace Sys2Proof.Machine

/-- `raw.i <- i` (R180). -/
def State.rawIndex (i : Word) (s : State) : State := { s with raw := { s.raw with i := some i } }

/-- `raw.* <- ⊥` (R180). -/
def State.clearRaw (s : State) : State := { s with raw := Raw.unknown }

/-- `raw.word <- MemRead(a, 2)`, which appends `EvRead(a, v)` (R57, R182). -/
def State.readElement (a : Word) (v : Half) (s : State) : State :=
  { s with raw := { s.raw with word := some v } }.emit (.read a v)

/-- `CHECK` (R182): a bad buffer is recorded and the request ends with no bus activity; no words, and the
request ends; else the first element is read next. -/
def State.rawxferCheck (buffer numWords : Word) (s : State) : State :=
  if s.rawxferOk buffer numWords then
    if numWords = 0 then s.clearRaw.finish
    else (s.rawIndex 0).goto (.rawxfer buffer numWords) .read
  else (s.raise (.contractBuffer buffer numWords)).finish

/-- `READ(i)` (R182). -/
def State.rawxferRead (buffer numWords : Word) (s : State) : Host.Outcome State Fault Refusal :=
  match s.raw.i with
  | none => .fault .rawUnknown
  | some i =>
    match s.mem.read16 (elementAddress buffer i).toNat with
    | none => .fault .readUnadmitted
    | some v =>
      .next ((s.readElement (elementAddress buffer i) v).goto (.rawxfer buffer numWords)
        (.tx .data .latch))

/-- After the transaction of element `i`: the latch record holds the element (R142, R180); the next element
is read, or the request ends with `raw.* <- ⊥`. DEDUCED (log 18): `raw.i` is `i` until this step. -/
def State.rawxferNext (buffer numWords i : Word) (x : Half) (s : State) : State :=
  let s := s.latched (some x)
  if i.toNat + 1 < numWords.toNat then
    (s.rawIndex (i + 1)).goto (.rawxfer buffer numWords) .read
  else s.clearRaw.finish

/-- One micro-step of the data transaction of the element last read (R182, R140). -/
def State.rawxferTx (buffer numWords : Word) (t : TxStep) (s : State) :
    Host.Outcome State Fault Refusal :=
  match s.raw.i, s.raw.word with
  | some i, some x =>
    .next (s.transaction (.rawxfer buffer numWords) .data x
      (State.rawxferNext buffer numWords i x) t)
  | _, _ => .fault .rawUnknown

/-- The micro-step table of R182. -/
def State.rawxferTable (buffer numWords : Word) (s : State) :
    MicroStep → Host.Outcome State Fault Refusal
  | .check => .next (s.rawxferCheck buffer numWords)
  | .read => s.rawxferRead buffer numWords
  | .tx .data t => s.rawxferTx buffer numWords t
  | _ => .fault .noMicroStep

/-- `RAWXFER(buffer, numWords)` (R180). -/
def execRawxfer (buffer numWords : Word) (s : State) : Host.Outcome State Fault Refusal :=
  s.microStep (.rawxfer buffer numWords) .check (s.rawxferTable buffer numWords)

end Sys2Proof.Machine
end

