-- ==== Sys2Proof/Machine/Reset.lean ====
section
/-! DEFINITION. `RESET` (spec/41_reset_sequencing.md R120, R121): the pulse train on the controller's
reset line. It resets the attached controller, not the block (spec/70_reset_and_hazards.md R221). -/

namespace Sys2Proof.Machine

/-- The micro-step table of R121. After the last wait the latch record is cleared (D29). -/
def State.resetTable (s : State) : MicroStep → Host.Outcome State Fault Refusal
  | .rstSettle => .next ((s.dly Config.settleMs).goto .reset .rstHigh)
  | .rstHigh => .next ((s.cs s.cfg.resetMask).goto .reset .rstHighWait)
  | .rstHighWait => .next ((s.dly Config.highMs).goto .reset .rstAssert)
  | .rstAssert => .next ((s.cr s.cfg.resetMask).goto .reset .rstAssertWait)
  | .rstAssertWait => .next ((s.dly Config.assertMs).goto .reset .rstRelease)
  | .rstRelease => .next ((s.cs s.cfg.resetMask).goto .reset .rstReleaseWait)
  | .rstReleaseWait => .next (((s.dly Config.releaseMs).latched none).finish)
  | _ => .fault .noMicroStep

/-- `RESET` (R120). -/
def execReset (s : State) : Host.Outcome State Fault Refusal :=
  s.microStep .reset .rstSettle s.resetTable

end Sys2Proof.Machine
end

