-- ==== Sys2Proof/Machine/SingleTransaction.lean ====
section
/-! DEFINITION. The single-transaction requests (spec/42_single_transaction.md): `WRCMD`, `WRDATA`,
`WRCMDP`, `WRAGAIN`. -/

namespace Sys2Proof.Machine

/-- R141: a command-mode transaction; the latch record is cleared at its end. -/
def State.wrcmdTable (cmd : Half) (s : State) : MicroStep → Host.Outcome State Fault Refusal
  | .tx .command t =>
    .next (s.transaction (.wrcmd cmd) .command cmd (fun s => (s.latched none).finish) t)
  | _ => .fault .noMicroStep

/-- `WRCMD(cmd)` (R141). -/
def execWrcmd (cmd : Half) (s : State) : Host.Outcome State Fault Refusal :=
  s.microStep (.wrcmd cmd) (.tx .command .latch) (s.wrcmdTable cmd)

/-- R142: a data-mode transaction; the latch record takes the value at its end. -/
def State.wrdataTable (value : Half) (s : State) : MicroStep → Host.Outcome State Fault Refusal
  | .tx .data t =>
    .next (s.transaction (.wrdata value) .data value (fun s => (s.latched (some value)).finish) t)
  | _ => .fault .noMicroStep

/-- `WRDATA(value)` (R142). -/
def execWrdata (value : Half) (s : State) : Host.Outcome State Fault Refusal :=
  s.microStep (.wrdata value) (.tx .data .latch) (s.wrdataTable value)

/-- R143: the four steps of `WRCMD(cmd)`, then the four of `WRDATA(param)`. The latch record is written at
the end of each half, as the composition says (log 5). -/
def State.wrcmdpTable (cmd param : Half) (s : State) :
    MicroStep → Host.Outcome State Fault Refusal
  | .tx .command t =>
    .next (s.transaction (.wrcmdp cmd param) .command cmd
      (fun s => (s.latched none).goto (.wrcmdp cmd param) (.tx .data .latch)) t)
  | .tx .data t =>
    .next (s.transaction (.wrcmdp cmd param) .data param
      (fun s => (s.latched (some param)).finish) t)
  | _ => .fault .noMicroStep

/-- `WRCMDP(cmd, param)` (R143). -/
def execWrcmdp (cmd param : Half) (s : State) : Host.Outcome State Fault Refusal :=
  s.microStep (.wrcmdp cmd param) (.tx .command .latch) (s.wrcmdpTable cmd param)

/-- R140, R144: the contract test, which emits no event, then one pulse, contract or not. -/
def State.wragainTable (value : Half) (s : State) : MicroStep → Host.Outcome State Fault Refusal
  | .check => .next ((s.checkWragain value).goto (.wragain value) (.tx .data .strobeLow))
  | .tx .data .strobeLow => .next (s.strobeLow.goto (.wragain value) (.tx .data .strobeHigh))
  | .tx .data .strobeHigh => .next s.strobeHigh.finish
  | _ => .fault .noMicroStep

/-- `WRAGAIN(value)` (R144). -/
def execWragain (value : Half) (s : State) : Host.Outcome State Fault Refusal :=
  s.microStep (.wragain value) .check (s.wragainTable value)

end Sys2Proof.Machine
end

