-- ==== Sys2Proof/Machine/Dispatch.lean ====
section
/-! DEFINITION. One arm per request. `exec i s` is the micro-step of the request `i` that the sequencer
names, or its first one when the block is IDLE (spec/10_state.md R27; log 4). -/

namespace Sys2Proof.Machine

def exec (i : Instr) (s : State) : Host.Outcome State Fault Refusal :=
  match i with
  | .wrcmd cmd => Sys2Proof.Machine.execWrcmd cmd s
  | .wrdata value => Sys2Proof.Machine.execWrdata value s
  | .wrcmdp cmd param => Sys2Proof.Machine.execWrcmdp cmd param s
  | .wragain value => Sys2Proof.Machine.execWragain value s
  | .wrmulti count value => Sys2Proof.Machine.execWrmulti count value s
  | .rawxfer buffer numWords => Sys2Proof.Machine.execRawxfer buffer numWords s
  | .reset => Sys2Proof.Machine.execReset s

end Sys2Proof.Machine
end

