-- ==== Sys2Proof/Decode.lean ====
section
/-! DEFINITION. Reading requests from 32-bit request words, and writing them (spec/30_encoding.md).
The encoding is the spec's own choice (decision D1): no claim about the hardware rests on it. -/

namespace Sys2Proof

/-! ## Fields (R71, R72, R74) -/

/-- `OP = H[31:28]`. -/
def opcodeOf (h : Word) : BitVec 4 := h.extractLsb' 28 4

/-- `RSV = H[27:16]`. -/
def reservedOf (h : Word) : BitVec 12 := h.extractLsb' 16 12

/-- `IMM16 = H[15:0]`. -/
def imm16Of (h : Word) : Half := h.extractLsb' 0 16

/-- `PARAM16 = E1[15:0]` of a `WRCMDP`. -/
def param16Of (e1 : Word) : Half := e1.extractLsb' 0 16

/-- `E1[31:16]` of a `WRCMDP`, reserved. -/
def paramReservedOf (e1 : Word) : Half := e1.extractLsb' 16 16

/-- The length of a request in words, told from its opcode alone (R73). A reserved opcode is one word. -/
def requestLength (op : BitVec 4) : Nat :=
  match op.toNat with
  | 3 => 2
  | 5 => 2
  | 6 => 3
  | _ => 1

/-! ## Decoding (R76 to R80) -/

/-- What the front of a request stream holds (R80): one of the seven requests, an illegal request
(R76, R77), or a header with too few words after it (R78). Each of the last three carries `H`. -/
inductive Item where
  | request (i : Instr)
  | illegalOpcode (h : Word)
  | illegalReserved (h : Word)
  | incomplete (h : Word)
  deriving DecidableEq, Repr

/-- A complete request whose opcode is defined: the request if its reserved bits are 0, else illegal
(R77). Either way the rest of the stream follows. -/
def checkedItem (h : Word) (reservedZero : Bool) (i : Instr) (rest : List Word) : Item × List Word :=
  if reservedZero then (.request i, rest) else (.illegalReserved h, rest)

/-- The first request of a stream and the words after it; nothing for an empty stream. The checks come
in the order opcode, length, reserved bits (R80, R203). An incomplete request takes the whole rest of
the stream with it (R78). -/
def decodeFront : List Word → Option (Item × List Word)
  | [] => none
  | h :: rest =>
    some <|
      match (opcodeOf h).toNat with
      | 1 => checkedItem h (reservedOf h == 0) (.wrcmd (imm16Of h)) rest
      | 2 => checkedItem h (reservedOf h == 0) (.wrdata (imm16Of h)) rest
      | 3 =>
        match rest with
        | e1 :: rest =>
          checkedItem h (reservedOf h == 0 && paramReservedOf e1 == 0)
            (.wrcmdp (imm16Of h) (param16Of e1)) rest
        | [] => (.incomplete h, [])
      | 4 => checkedItem h (reservedOf h == 0) (.wragain (imm16Of h)) rest
      | 5 =>
        match rest with
        | e1 :: rest => checkedItem h (reservedOf h == 0) (.wrmulti e1 (imm16Of h)) rest
        | [] => (.incomplete h, [])
      | 6 =>
        match rest with
        | e1 :: e2 :: rest =>
          checkedItem h (reservedOf h == 0 && imm16Of h == 0) (.rawxfer e1 e2) rest
        | _ => (.incomplete h, [])
      | 7 => checkedItem h (reservedOf h == 0 && imm16Of h == 0) .reset rest
      | _ => (.illegalOpcode h, rest)

/-- `decodeFront` repeated at most `fuel` times. -/
def decodeWithin : Nat → List Word → List Item
  | 0, _ => []
  | fuel + 1, ws =>
    match decodeFront ws with
    | none => []
    | some (item, rest) => item :: decodeWithin fuel rest

/-- The whole stream, word by word from the front (R80). Every item takes at least one word, so the
length of the stream is fuel enough. -/
def decodeStream (ws : List Word) : List Item := decodeWithin ws.length ws

/-! ## Encoding (R71, R72, R75) -/

/-- A header word: the opcode, the reserved field 0, the 16-bit operand. -/
def headerWord (op : BitVec 4) (imm : Half) : Word := op ++ (0#12 ++ imm)

/-- The words of a request. -/
def encode : Instr → List Word
  | .wrcmd cmd => [headerWord 1 cmd]
  | .wrdata value => [headerWord 2 value]
  | .wrcmdp cmd param => [headerWord 3 cmd, 0#16 ++ param]
  | .wragain value => [headerWord 4 value]
  | .wrmulti count value => [headerWord 5 value, count]
  | .rawxfer buffer numWords => [headerWord 6 0, buffer, numWords]
  | .reset => [headerWord 7 0]

/-! ## A word of the opcode table -/

/-- The request words of a table row: `w` has bit 0 at the least significant bit of the first word,
a later word's bits count on from it, and every bit from `nbits` on is 0. As many words as the opcode
asks for (R73). -/
def tableWords (nbits w : Nat) : List Word :=
  let v := w % 2 ^ nbits
  [BitVec.ofNat 32 v, BitVec.ofNat 32 (v >>> 32), BitVec.ofNat 32 (v >>> 64)].take
    (requestLength (opcodeOf (BitVec.ofNat 32 v)))

/-- The request the decoder reads from a row of the opcode table; none where it refuses. -/
def decodeTableWord (nbits w : Nat) : Option Instr :=
  match decodeFront (tableWords nbits w) with
  | some (.request i, _) => some i
  | _ => none

end Sys2Proof
end

