-- ==== Sys2Proof/Machine/Port.lean ====
section
/-! DEFINITION. The request port (spec/30_encoding.md R70, R76 to R78): how the block comes by the request
it runs, and what it does with words that are no request. -/

namespace Sys2Proof.Machine

/-- The words the host has presented and the block has not accepted. -/
def State.withPort (ws : List Word) (s : State) : State := { s with port := ws }

/-- The host presents more request words, at the end of the stream (R36, R211). -/
def State.present (ws : List Word) (s : State) : State := s.withPort (s.port ++ ws)

/-- An illegal or incomplete request: its fault is recorded, there is no bus activity, and the block is
IDLE again (R76, R77, R78, R203). -/
def State.rejectRequest (info : FaultInfo) (s : State) : State := (s.raise info).finish

/-- The request whose micro-step comes next, with the state it runs in: the one in flight, or in IDLE the
one at the front of the port, which is accepted (R27, R70). No request where the words at the front are
none: the state is then the one after the block's step (R76 to R78). With nothing presented the block
waits, unchanged (log 3). -/
def State.nextRequest (s : State) : Option Instr × State :=
  match s.seq with
  | .busy i _ => (some i, s)
  | .idle =>
    match decodeFront s.port with
    | none => (none, s)
    | some (.request i, rest) => (some i, s.withPort rest)
    | some (.illegalOpcode h, rest) => (none, (s.withPort rest).rejectRequest (.illegalOpcode h))
    | some (.illegalReserved h, rest) =>
      (none, (s.withPort rest).rejectRequest (.illegalReserved h))
    | some (.incomplete h, rest) => (none, (s.withPort rest).rejectRequest (.incompleteRequest h))

/-- The block made ready to accept, as its very next step, a request of these words: no request in flight,
and the words alone on the port (log 24). -/
def State.withRequestWords (ws : List Word) (s : State) : State :=
  { s with seq := .idle, port := ws }

end Sys2Proof.Machine
end

