-- ==== Sys2Proof/Machine/Step.lean ====
section
/-! DEFINITION. One step of the block: exactly one micro-operation or engine test of the request in flight,
or one rejected request (spec/10_state.md R27, spec/70_reset_and_hazards.md R231). -/

namespace Sys2Proof.Machine

/-- One step (R27). -/
def step (s : State) : Host.Outcome State Fault Refusal :=
  match s.nextRequest with
  | (some i, s) => exec i s
  | (none, s) => .next s

/-- `s` with the request of a row of the opcode table on the port, to be accepted by the very next step
(log 3, log 24). -/
def State.withFetchWord (s : State) (nbits w : Nat) : State := s.withRequestWords (tableWords nbits w)

end Sys2Proof.Machine
end

