-- ==== Sys2Proof/Machine/Assembler.lean ====
section
/-! DEFINITION. Assembly lines, the pseudo-instructions `fill` and `wrcmds`, and the words they place in the
request stream, from the characters of the line on (spec/30_encoding.md R81, R82; decision D31). What R81 does
not say of spacing, letter case and blank lines is log 25. -/

namespace Sys2Proof.Machine

/-- One assembly line, operands in the source's argument order (R81, R82). -/
inductive AsmLine where
  | wrcmd (cmd : Nat)
  | wrdata (value : Nat)
  | wrcmdp (cmd param : Nat)
  | wragain (value : Nat)
  | wrmulti (count value : Nat)
  | rawxfer (buffer numWords : Nat)
  | reset
  /-- `.word <w32>`: one raw word. -/
  | word (w : Nat)
  /-- `fill <n>, <v>`: write `v` `n` times. -/
  | fill (n v : Nat)
  /-- `wrcmds <c>, <p1>, ..., <pk>`: a command with `k` parameters. -/
  | wrcmds (cmd : Nat) (params : List Nat)
  deriving DecidableEq, Repr

/-- Every operand lies in its range; anything else is an assembly error (R81, R82). -/
def AsmLine.wellFormed : AsmLine → Bool
  | .wrcmd c => fits16 c
  | .wrdata v => fits16 v
  | .wrcmdp c p => fits16 c && fits16 p
  | .wragain v => fits16 v
  | .wrmulti n v => fits32 n && fits16 v
  | .rawxfer b n => fits32 b && fits32 n
  | .reset => true
  | .word w => fits32 w
  | .fill n v => fitsFill n && fits16 v
  | .wrcmds c ps => fits16 c && ps.all fits16

/-- A 16-bit operand as a field value. -/
def operand16 (n : Nat) : Half := BitVec.ofNat 16 n

/-- A 32-bit operand as a field value. -/
def operand32 (n : Nat) : Word := BitVec.ofNat 32 n

/-- The requests a line stands for, the pseudo-instructions expanded (R82); a raw word stands for none. -/
def AsmLine.requests : AsmLine → List Instr
  | .wrcmd c => [.wrcmd (operand16 c)]
  | .wrdata v => [.wrdata (operand16 v)]
  | .wrcmdp c p => [.wrcmdp (operand16 c) (operand16 p)]
  | .wragain v => [.wragain (operand16 v)]
  | .wrmulti n v => [.wrmulti (operand32 n) (operand16 v)]
  | .rawxfer b n => [.rawxfer (operand32 b) (operand32 n)]
  | .reset => [.reset]
  | .word _ => []
  | .fill 0 _ => []
  | .fill (n + 1) v => [.wrdata (operand16 v), .wrmulti (operand32 n) (operand16 v)]
  | .wrcmds c ps => .wrcmd (operand16 c) :: ps.map fun p => .wrdata (operand16 p)

/-- The words a line places in the stream, or an assembly error (R81). -/
def AsmLine.assemble (l : AsmLine) : Option (List Word) :=
  if l.wellFormed then
    match l with
    | .word w => some [operand32 w]
    | l => some (l.requests.flatMap encode)
  else none

/-! ## The characters of a line (R81; log 25) -/

/-- Spaces and tabs separate tokens. -/
def isBlank (c : Char) : Bool := c == ' ' || c == '\t' || c == '\r'

/-- A piece of text without the blanks at its two ends. -/
def trimBlanks (cs : List Char) : List Char :=
  ((cs.dropWhile isBlank).reverse.dropWhile isBlank).reverse

/-- A digit's value, in a base up to 16. -/
def digitValue (c : Char) : Option Nat :=
  if '0' ≤ c ∧ c ≤ '9' then some (c.toNat - '0'.toNat)
  else if 'a' ≤ c ∧ c ≤ 'f' then some (c.toNat - 'a'.toNat + 10)
  else if 'A' ≤ c ∧ c ≤ 'F' then some (c.toNat - 'A'.toNat + 10)
  else none

/-- The digits of a number in the given base, after the value `acc`. -/
def digitsFrom (base acc : Nat) : List Char → Option Nat
  | [] => some acc
  | c :: cs =>
    match digitValue c with
    | some d => if d < base then digitsFrom base (acc * base + d) cs else none
    | none => none

/-- A number, "in decimal or `0x` hexadecimal" (R81). -/
def parseNumber : List Char → Option Nat
  | [] => none
  | '0' :: 'x' :: [] => none
  | '0' :: 'x' :: c :: cs => digitsFrom 16 0 (c :: cs)
  | c :: cs => digitsFrom 10 0 (c :: cs)

/-- The pieces of a text between the given characters. -/
def splitOnChar (sep : Char) : List Char → List (List Char)
  | [] => [[]]
  | c :: cs =>
    match splitOnChar sep cs with
    | [] => [[c]]
    | piece :: rest => if c == sep then [] :: piece :: rest else (c :: piece) :: rest

/-- Every piece a number, or no list. -/
def parseNumbers : List (List Char) → Option (List Nat)
  | [] => some []
  | p :: ps =>
    match parseNumber (trimBlanks p), parseNumbers ps with
    | some n, some ns => some (n :: ns)
    | _, _ => none

/-- The operands of a line: numbers separated by commas. -/
def parseOperands (cs : List Char) : Option (List Nat) :=
  if trimBlanks cs = [] then some [] else parseNumbers (splitOnChar ',' cs)

/-- The line a mnemonic and its operands make, if it is one of R81 and R82. -/
def lineOf (mnemonic : List Char) (operands : List Nat) : Option AsmLine :=
  match operands with
  | [] => if mnemonic = ['r', 'e', 's', 'e', 't'] then some .reset else none
  | a :: rest =>
    if mnemonic = ['w', 'r', 'c', 'm', 'd', 's'] then some (.wrcmds a rest)
    else
      match rest with
      | [] =>
        if mnemonic = ['w', 'r', 'c', 'm', 'd'] then some (.wrcmd a)
        else if mnemonic = ['w', 'r', 'd', 'a', 't', 'a'] then some (.wrdata a)
        else if mnemonic = ['w', 'r', 'a', 'g', 'a', 'i', 'n'] then some (.wragain a)
        else if mnemonic = ['.', 'w', 'o', 'r', 'd'] then some (.word a)
        else none
      | [b] =>
        if mnemonic = ['w', 'r', 'c', 'm', 'd', 'p'] then some (.wrcmdp a b)
        else if mnemonic = ['w', 'r', 'm', 'u', 'l', 't', 'i'] then some (.wrmulti a b)
        else if mnemonic = ['r', 'a', 'w', 'x', 'f', 'e', 'r'] then some (.rawxfer a b)
        else if mnemonic = ['f', 'i', 'l', 'l'] then some (.fill a b)
        else none
      | _ => none

/-- One line of text: a mnemonic, then its operands. -/
def parseLine (cs : List Char) : Option AsmLine :=
  let cs := trimBlanks cs
  match parseOperands (cs.dropWhile fun c => !isBlank c) with
  | some ns => lineOf (cs.takeWhile fun c => !isBlank c) ns
  | none => none

/-- The words of some lines of text in order, or an assembly error. A blank line places none. -/
def assembleLines : List (List Char) → Option (List Word)
  | [] => some []
  | l :: ls =>
    if trimBlanks l = [] then assembleLines ls
    else
      match parseLine l with
      | none => none
      | some line =>
        match line.assemble, assembleLines ls with
        | some ws, some rest => some (ws ++ rest)
        | _, _ => none

/-- A whole program, one request a line (R81). -/
def assembleText (cs : List Char) : Option (List Word) := assembleLines (splitOnChar '\n' cs)

end Sys2Proof.Machine
end

