-- ==== Sys2Proof/Machine/Construction.lean ====
section
/-! DEFINITION. Construction (spec/40_binding_init.md R100 to R105): BIND and INIT, one indivisible step
before the first request. It is no request; it makes the block or refuses to (spec/60_exceptions.md R207). -/

namespace Sys2Proof.Machine

/-- Why no block exists (R207): build-time failures, never faults of a running block. -/
inductive BindRefusal where
  /-- `BIND_UNSUPPORTED_FAMILY` (R105). -/
  | unsupportedFamily
  /-- `BIND_INVALID_PINS` (R101). -/
  | invalidPins
  deriving DecidableEq, Repr

/-- `setResetAddresses(P.controlPort, variant)` (R104). -/
def setResetAddresses (p : PinDescription) : ControlVariant → Word × Word
  | .split => p.splitAddresses
  | .halves => p.halvesAddresses

/-- The configuration BIND resolves, before its check (R100). -/
def resolve (p : PinDescription) (variant : ControlVariant) : BusContext where
  controlSetAddress := (setResetAddresses p variant).1
  controlResetAddress := (setResetAddresses p variant).2
  dataOutputAddress := p.outputRegisterAddress
  writeStrobeMask := 1#16 <<< p.wrBit
  registerSelectMask := 1#16 <<< p.rsBit
  resetMask := 1#16 <<< p.rstBit
  dataPort := p.dataPort
  controlPort := p.controlPort

/-- BIND (R100, R101, R105). -/
def bindPins (p : PinDescription) (variant : ControlVariant) : Except BindRefusal BusContext :=
  if !p.familyRecognised then .error .unsupportedFamily
  else if (resolve p variant).valid then .ok (resolve p variant)
  else .error .invalidPins

/-- Before INIT: bound, every line `⊥`, nothing configured, nothing traced (R25, R32). The host's inputs
are whatever it will present. -/
def State.bound (c : BusContext) (port : List Word) (mem : Memory) : State where
  cfg := c
  lines := Lines.unknown
  dir := ⟨false, false⟩
  seq := .idle
  eng := Eng.unknown
  raw := Raw.unknown
  ghost := ⟨none⟩
  faults := []
  trace := []
  port := port
  reqIndex := 0
  mem := mem

/-- `dir.data <- true` (R102). -/
def State.dataOut (s : State) : State := { s with dir := { s.dir with data := true } }

/-- `dir.ctrl <- true` (R102). -/
def State.ctrlOut (s : State) : State := { s with dir := { s.dir with ctrl := true } }

/-- The control-port lines of the bus: `WR_M | RS_M | RST_M` (R102). -/
def controlLines (c : BusContext) : Half :=
  c.writeStrobeMask ||| c.registerSelectMask ||| c.resetMask

/-- INIT (R102): configure the 16 data lines, then the 3 control lines, then force WR idle high (D9). -/
def State.init (s : State) : State :=
  let s := (s.cfgPort s.cfg.dataPort 0xFFFF).dataOut
  let s := (s.cfgPort s.cfg.controlPort (controlLines s.cfg)).ctrlOut
  { (s.cs s.cfg.writeStrobeMask) with ghost := ⟨none⟩, faults := [], seq := .idle }

/-- Construction: BIND, then INIT (R103). -/
def construct (p : PinDescription) (variant : ControlVariant) (port : List Word) (mem : Memory) :
    Except BindRefusal State :=
  match bindPins p variant with
  | .error r => .error r
  | .ok c => .ok (State.bound c port mem).init

end Sys2Proof.Machine
end

