-- ==== Sys2Proof/Machine/Observe.lean ====
section
/-! DEFINITION. What an observer of the block sees: the captures of the controller (spec/10_state.md R33), the
lines that reach it (R25), and the observation at the end of a run (spec/70_reset_and_hazards.md R233). Where
the spec has `⊥`, each observation is a free draw of the run `r` (spec/00_scope.md R11, U8, U9; log 2). -/

namespace Sys2Proof.Machine

/-! ## Captures (R33) -/

/-- What the controller takes at one WR rise (R33). `none` is an unknown value. -/
structure Capture where
  rs : Option Level
  d : Option Half
  deriving DecidableEq, Repr

/-- The `n`th event is a WR low-to-high transition: a `CS` whose mask has WR's bit, with WR low just before.
With WR unknown it is as the draw says (R33, D28; log 17). -/
def risingEdge (draw : Nat → Bool) (c : BusContext) (n : Nat) (l : Lines) : Event → Bool
  | .cs m =>
    m &&& c.writeStrobeMask != 0 &&
      match l.wr with
      | some .low => true
      | some .high => false
      | none => draw n
  | _ => false

/-- The captures of a list of events whose first is event number `n`, from given lines (R33; D19: at the
rise of WR, log 16). -/
def capturesFrom (draw : Nat → Bool) (c : BusContext) : Nat → Lines → List Event → List Capture
  | _, _, [] => []
  | n, l, e :: es =>
    (if risingEdge draw c n l e then [⟨l.rs, l.d⟩] else []) ++
      capturesFrom draw c (n + 1) (l.after c e) es

/-- All captures of the run `r` since before construction (R33). -/
def State.captures (r : Nat) (s : State) : List Capture :=
  capturesFrom (Config.edgeDraw r) s.cfg 0 Lines.unknown s.trace

/-! ## One observation of each thing (R11) -/

/-- What an observer reads of the data lines or the latch record. -/
def observedData (r : Nat) (look : Look) (v : Option Half) : Half := v.getD (Config.dataDraw r look)

/-- What an observer reads of one level. -/
def observedLevel (r : Nat) (look : Look) (line : ControlLine) (l : Option Level) : Level :=
  l.getD (Config.levelDraw r look line)

/-- What the controller has taken in the `k`th capture: register-select and data. -/
def Capture.observed (r k : Nat) (x : Capture) : Level × Half :=
  (observedLevel r (.capture k) .rs x.rs, observedData r (.capture k) x.d)

/-- The levels of the 19 lines as an observer reads them: every one is a level. -/
structure BusLevels where
  d : Half
  wr : Level
  rs : Level
  rst : Level
  deriving DecidableEq, Repr

/-- The `k`th look at the lines. -/
def Lines.observed (r k : Nat) (l : Lines) : BusLevels where
  d := observedData r (.lines k) l.d
  wr := observedLevel r (.lines k) .wr l.wr
  rs := observedLevel r (.lines k) .rs l.rs
  rst := observedLevel r (.lines k) .rst l.rst

/-- The lines that reach the controller: a group that is not configured as output does not (R25; log 19). -/
def State.seenLines (s : State) : Lines where
  d := if s.dir.data then s.lines.d else none
  wr := if s.dir.ctrl then s.lines.wr else none
  rs := if s.dir.ctrl then s.lines.rs else none
  rst := if s.dir.ctrl then s.lines.rst else none

/-- What the controller sees on the lines at the `k`th look. -/
def State.seen (r k : Nat) (s : State) : BusLevels := s.seenLines.observed r k

/-- The `info` of the `k`th fault record as an observer reads it: what it holds of the lines and of the latch
record is then known (R202, R11). -/
def FaultInfo.observed (r k : Nat) : FaultInfo → FaultInfo
  | .contractWragain value lastData d rs =>
    .contractWragain value (some (observedData r (.faultLatchRecord k) lastData))
      (some (observedData r (.faultLines k) d)) (some (observedLevel r (.faultLines k) .rs rs))
  | .contractWrmulti count value d rs =>
    .contractWrmulti count value (some (observedData r (.faultLines k) d))
      (some (observedLevel r (.faultLines k) .rs rs))
  | .illegalOpcode h => .illegalOpcode h
  | .illegalReserved h => .illegalReserved h
  | .contractBuffer buffer numWords => .contractBuffer buffer numWords
  | .incompleteRequest h => .incompleteRequest h

/-- The `k`th fault record as an observer reads it. -/
def FaultRecord.observed (r k : Nat) (f : FaultRecord) : FaultRecord :=
  { f with info := f.info.observed r k }

/-! ## The end of a run (R233) -/

/-- What is observed at the end of a run: lines, latch record, faults, trace, captures. -/
structure Observation where
  lines : BusLevels
  lastData : Half
  faults : List FaultRecord
  trace : List Event
  captures : List (Level × Half)
  deriving DecidableEq, Repr

/-- The `k`th observation of the run `r` (R233). -/
def State.observation (r k : Nat) (s : State) : Observation where
  lines := s.lines.observed r k
  lastData := observedData r (.latchRecord k) s.ghost.lastData
  faults := s.faults.mapIdx fun n f => f.observed r n
  trace := s.trace
  captures := (s.captures r).mapIdx fun n x => x.observed r n

end Sys2Proof.Machine
end

