-- ==== Sys2Proof/Safety.lean ====
section
/-! DEFINITION. What claims speak of: the trace read as line levels, the hazards of
spec/70_reset_and_hazards.md R224 to R227, the events each request must emit, how many steps it takes
(R231), the end of a run (R233), and the invariant of the block. -/

namespace Sys2Proof.Machine

/-! ## The trace as line levels -/

/-- The lines after a list of events, from given lines (R24: only bus events change them). -/
def Lines.replay (c : BusContext) (l : Lines) (es : List Event) : Lines := es.foldl (Lines.after c) l

/-! ## Accesses to the address space (R50) -/

/-- A 16-bit access to the system address space (R12, R55). -/
inductive Access where
  | write16 (a : Word) (v : Half)
  | read16 (a : Word) (v : Half)
  deriving DecidableEq, Repr

/-- The access a bus event is (R12): `DW`, `CS`, `CR` are `MemWrite`s to the three registers, a buffer read
is a `MemRead`; a delay and a port configuration are calls, no access. -/
def Event.access (c : BusContext) : Event → Option Access
  | .dw v => some (.write16 c.dataOutputAddress v)
  | .cs m => some (.write16 c.controlSetAddress m)
  | .cr m => some (.write16 c.controlResetAddress m)
  | .read a v => some (.read16 a v)
  | .cfg _ _ => none
  | .delay _ => none

/-! ## Hazards (R224 to R227) -/

/-- The mask is exactly one of `WR_M`, `RS_M`, `RST_M` (R63). -/
def isLineMask (c : BusContext) (m : Half) : Prop :=
  m = c.writeStrobeMask ∨ m = c.registerSelectMask ∨ m = c.resetMask

/-- Every control write uses the mask of one line (R63, R26). -/
def Event.oneLine (c : BusContext) : Event → Prop
  | .cs m => isLineMask c m
  | .cr m => isLineMask c m
  | _ => True

/-- An event is clean on given lines: its control mask is one line's (R63), and while WR is low nothing
happens but its rise (R225, R226). -/
def Event.clean (c : BusContext) (l : Lines) (e : Event) : Prop :=
  e.oneLine c ∧ (l.wr = some .low → e = .cs c.writeStrobeMask)

/-- Every event of a trace is clean where it happens. -/
def CleanTrace (c : BusContext) : Lines → List Event → Prop
  | _, [] => True
  | l, e :: es => e.clean c l ∧ CleanTrace c (l.after c e) es

/-- R225's bus hazard: a data write, or a control write whose mask includes RS, while WR is low. -/
def Event.busHazard (c : BusContext) (l : Lines) : Event → Prop
  | .dw _ => l.wr = some .low
  | .cs m => l.wr = some .low ∧ m &&& c.registerSelectMask ≠ 0
  | .cr m => l.wr = some .low ∧ m &&& c.registerSelectMask ≠ 0
  | _ => False

/-! ## What each request emits -/

/-- `PULSE` (R12). -/
def pulse (c : BusContext) : List Event := [.cr c.writeStrobeMask, .cs c.writeStrobeMask]

/-- `PULSE` repeated `n` times (R167, R171). -/
def pulses (c : BusContext) : Nat → List Event
  | 0 => []
  | n + 1 => pulse c ++ pulses c n

/-- The four events of a full transaction (R140). -/
def transactionEvents (c : BusContext) (mode : BusMode) (x : Half) : List Event :=
  match mode with
  | .command => .dw x :: .cr c.registerSelectMask :: pulse c
  | .data => .dw x :: .cs c.registerSelectMask :: pulse c

/-- The seven events of `RESET` (R120). -/
def resetEvents (c : BusContext) : List Event :=
  [.delay 10, .cs c.resetMask, .delay 5, .cr c.resetMask, .delay 50, .cs c.resetMask, .delay 50]

/-- The elements of a buffer of `n` elements from byte address `a` on, as far as they are admitted. -/
def Memory.elements (m : Memory) (a : Nat) : Nat → List Half
  | 0 => []
  | n + 1 =>
    match m.read16 a with
    | some x => x :: Memory.elements m (a + 2) n
    | none => []

/-- The events of a raw transfer of the given elements (R180): each is read, then written in a data
transaction of its own. -/
def rawEvents (c : BusContext) (a : Word) : List Half → List Event
  | [] => []
  | x :: xs => .read a x :: transactionEvents c .data x ++ rawEvents c (a + 2) xs

/-- The least time in ms that the delays of a trace take (R122, R209). -/
def delayMs (es : List Event) : Nat :=
  (es.map fun e => match e with | .delay n => n | _ => 0).sum

/-! ## Steps and runs (R231, R233) -/

/-- The micro-step a request begins with (R121, R140, R161, R182). -/
def firstStep : Instr → MicroStep
  | .wrcmd _ => .tx .command .latch
  | .wrdata _ => .tx .data .latch
  | .wrcmdp _ _ => .tx .command .latch
  | .wragain _ => .check
  | .wrmulti _ _ => .check
  | .rawxfer _ _ => .check
  | .reset => .rstSettle

/-- The next micro-step of the request `i` is `m`: it is in flight there, or the block is IDLE and `m` is its
first (R27; log 4). -/
def State.AtStep (s : State) (i : Instr) (m : MicroStep) : Prop :=
  s.seq = .busy i m ∨ (s.seq = .idle ∧ m = firstStep i)

/-- `s` after one micro-operation: the lines at `l`, the event `e` appended, the sequencer at `q`. -/
def State.did (s : State) (l : Lines) (e : Event) (q : Seq) : State :=
  { s with lines := l, trace := s.trace ++ [e], seq := q }

/-- The event of SELECT in each mode (R140). -/
def selectEvent (c : BusContext) : BusMode → Event
  | .command => .cr c.registerSelectMask
  | .data => .cs c.registerSelectMask

/-- The four rows of R140's table for the request `i` and a transaction of `x`; `ended` is what else the
request does in the row of STROBE_HIGH. -/
def TransactionRows (s : State) (i : Instr) (mode : BusMode) (x : Half) (ended : State → State) :
    Prop :=
  (s.AtStep i (.tx mode .latch) →
    exec i s = .next (s.did { s.lines with d := some x } (.dw x) (.busy i (.tx mode .select)))) ∧
  (s.AtStep i (.tx mode .select) →
    exec i s = .next (s.did { s.lines with rs := some mode.level } (selectEvent s.cfg mode)
      (.busy i (.tx mode .strobeLow)))) ∧
  (s.AtStep i (.tx mode .strobeLow) →
    exec i s = .next (s.did { s.lines with wr := some .low } (.cr s.cfg.writeStrobeMask)
      (.busy i (.tx mode .strobeHigh)))) ∧
  (s.AtStep i (.tx mode .strobeHigh) →
    exec i s = .next (ended (s.did { s.lines with wr := some .high } (.cs s.cfg.writeStrobeMask)
      .idle)))

/-- The steps a request takes in the state it is accepted in (R231). -/
def State.stepsOf (s : State) : Instr → Nat
  | .wrcmd _ => 4
  | .wrdata _ => 4
  | .wrcmdp _ _ => 8
  | .wragain _ => 3
  | .wrmulti count _ => 4 + 2 * count.toNat + count.toNat / 40
  | .rawxfer b n => if s.rawxferOk b n then 1 + 5 * n.toNat else 1
  | .reset => 7

/-- `k` steps of the block, stopping where a step stops (`Host.Core.run` of the model, Laws/Exec.lean). -/
def run : Nat → State → Host.Outcome State Fault Refusal
  | 0, s => .next s
  | k + 1, s =>
    match step s with
    | .next t => run k t
    | .fault r => .fault r
    | .refused r => .refused r

/-- The request `i` is accepted in `s` and the block takes `k` steps in all for it: the first is the request's
own first micro-step. -/
def State.serve (s : State) (i : Instr) (k : Nat) : Host.Outcome State Fault Refusal :=
  match exec i s with
  | .next t => run (k - 1) t
  | .fault r => .fault r
  | .refused r => .refused r

/-- The block is ready for a request: a valid binding, IDLE, and WR idle high (R101, R227). -/
structure State.Ready (s : State) : Prop where
  valid : s.cfg.valid = true
  idle : s.seq = .idle
  idleHigh : s.lines.wr = some .high

/-- The captures of the events `t` has beyond those of `s`, of which it is a continuation (R33). -/
def capturesSince (draw : Nat → Bool) (s t : State) : List Capture :=
  capturesFrom draw s.cfg s.trace.length s.lines (t.trace.drop s.trace.length)

/-- The end of a run (R233): every request accepted, and the block IDLE. -/
def State.runEnded (s : State) : Bool := s.port == [] && s.seq == .idle

/-! ## The invariant -/

/-- What the lines show at each step of a transaction of `x` (R140, R224). -/
def TxOk (mode : BusMode) (x : Half) (l : Lines) : TxStep → Prop
  | .latch => True
  | .select => l.d = some x
  | .strobeLow => l.d = some x ∧ l.rs = some mode.level
  | .strobeHigh => l.d = some x ∧ l.rs = some mode.level

/-- The latch record tells the truth about the lines (R30). -/
def State.GhostOk (s : State) : Prop :=
  ∀ v, s.ghost.lastData = some v → s.lines.d = some v ∧ s.lines.rs = some .high

/-- The micro-steps entered with the strobe low: those that raise it (R140, R161, R226). -/
def MicroStep.raisesStrobe : MicroStep → Bool
  | .tx _ .strobeHigh => true
  | .batchHigh => true
  | .tailHigh => true
  | _ => false

/-- The engine registers at each micro-step of `WRMULTI(count, _)` (R161, R172). -/
def Eng.Ok (count : Word) (e : Eng) : MicroStep → Prop
  | .check => True
  | .entryTest => e.rem = some count
  | .batchLow => ∃ r k, e.rem = some r ∧ e.k = some k ∧ 40 ≤ r.toNat ∧ k.toNat < 40
  | .batchHigh => ∃ r k, e.rem = some r ∧ e.k = some k ∧ 40 ≤ r.toNat ∧ k.toNat < 40
  | .batchTest => ∃ r, e.rem = some r ∧ e.k = some 40 ∧ 40 ≤ r.toNat
  | .dispatch => ∃ r, e.rem = some r ∧ r.toNat < 40
  | .tailLow => ∃ r n j, e.rem = some r ∧ e.entry = some n ∧ e.j = some j ∧
      n.toNat + r.toNat = 39 ∧ n.toNat ≤ j.toNat ∧ j.toNat < 39
  | .tailHigh => ∃ r n j, e.rem = some r ∧ e.entry = some n ∧ e.j = some j ∧
      n.toNat + r.toNat = 39 ∧ n.toNat ≤ j.toNat ∧ j.toNat < 39
  | .done => ∃ r n, e.rem = some r ∧ e.entry = some n ∧ e.j = some 39 ∧
      n.toNat + r.toNat = 39
  | _ => False

/-- The transfer registers and the lines at each micro-step of `RAWXFER(b, n)` (R181, R182). -/
def State.RawOk (s : State) (b n : Word) : MicroStep → Prop
  | .check => s.raw = Raw.unknown
  | .read => bufferOK s.cfg s.mem b n = true ∧ ∃ i, s.raw.i = some i ∧ i.toNat < n.toNat
  | .tx .data t => bufferOK s.cfg s.mem b n = true ∧ ∃ i x, s.raw.i = some i ∧ i.toNat < n.toNat ∧
      s.raw.word = some x ∧ s.mem.read16 (b.toNat + 2 * i.toNat) = some x ∧ TxOk .data x s.lines t
  | _ => False

/-- The reset line at each micro-step of `RESET` (R121). -/
def RstOk (l : Lines) : MicroStep → Prop
  | .rstSettle => True
  | .rstHigh => True
  | .rstHighWait => l.rst = some .high
  | .rstAssert => l.rst = some .high
  | .rstAssertWait => l.rst = some .low
  | .rstRelease => l.rst = some .low
  | .rstReleaseWait => l.rst = some .high
  | _ => False

/-- The micro-step belongs to the request's table, and the registers hold what the table has put there
(R27, R121, R140, R161, R182). -/
def State.StepOk (s : State) (m : MicroStep) : Instr → Prop
  | .wrcmd c => s.eng = Eng.unknown ∧ s.raw = Raw.unknown ∧
      ∃ t, m = .tx .command t ∧ TxOk .command c s.lines t
  | .wrdata v => s.eng = Eng.unknown ∧ s.raw = Raw.unknown ∧
      ∃ t, m = .tx .data t ∧ TxOk .data v s.lines t
  | .wrcmdp c p => s.eng = Eng.unknown ∧ s.raw = Raw.unknown ∧
      ((∃ t, m = .tx .command t ∧ TxOk .command c s.lines t) ∨
       (∃ t, m = .tx .data t ∧ TxOk .data p s.lines t))
  | .wragain _ => s.eng = Eng.unknown ∧ s.raw = Raw.unknown ∧ s.GhostOk ∧
      (m = .check ∨ m = .tx .data .strobeLow ∨ m = .tx .data .strobeHigh)
  | .wrmulti n _ => s.raw = Raw.unknown ∧ s.GhostOk ∧ s.eng.Ok n m
  | .rawxfer b n => s.eng = Eng.unknown ∧ (m = .check → s.GhostOk) ∧ s.RawOk b n m
  | .reset => s.eng = Eng.unknown ∧ s.raw = Raw.unknown ∧ RstOk s.lines m

/-- The sequencer: between requests WR is idle high (R227) and the working registers are `⊥` (R28, R29);
within one, WR is low exactly before the step that raises it (R226). -/
def State.SeqOk (s : State) : Prop :=
  match s.seq with
  | .idle => s.lines.wr = some .high ∧ s.eng = Eng.unknown ∧ s.raw = Raw.unknown ∧ s.GhostOk
  | .busy i m =>
    s.lines.wr = some (if m.raisesStrobe then .low else .high) ∧ s.StepOk m i

/-- The request in flight has made its contract test. -/
def State.pastCheck (s : State) : Prop :=
  match s.seq with
  | .idle => False
  | .busy _ m => m ≠ .check

/-- At most one record per request, in stream order, none of a later request (R203, R204). -/
def State.FaultsOk (s : State) : Prop :=
  s.faults.Pairwise (fun f g => f.reqIndex < g.reqIndex) ∧
  ∀ f ∈ s.faults, f.reqIndex < s.reqIndex ∨ (f.reqIndex = s.reqIndex ∧ s.pastCheck)

/-- The invariant of the block, from construction on. -/
structure State.Inv (s : State) : Prop where
  /-- The binding is valid (R101): no block exists otherwise. -/
  valid : s.cfg.valid = true
  /-- The launch memory is in canonical form. -/
  memory : s.mem.wf = true
  /-- All 19 lines are outputs (R25, R103). -/
  outputs : s.dir = ⟨true, true⟩
  /-- The lines are what the trace says (R24). -/
  levels : s.lines = Lines.replay s.cfg Lines.unknown s.trace
  /-- No hazard has happened, and no control write touched another line (R225, R226, R26, R63). -/
  clean : CleanTrace s.cfg Lines.unknown s.trace
  /-- The sequencer and the registers agree (R27 to R30, R226, R227). -/
  sequencer : s.SeqOk
  /-- The fault record is in order (R203, R204). -/
  records : s.FaultsOk

end Sys2Proof.Machine
end

