-- ==== Sys2Proof/Certificates/Slice0/Obligations.lean ====
section
/-! DEFINITION. The statements about the block, each from the numbered rules of spec/. Where one rests on a
convention of the model or on a decision the spec marks as its own, its docstring names it. -/

open Sys2Proof Sys2Proof.Machine

/-! ## Reading and writing requests (spec/30_encoding.md; the encoding is decision D1) -/

/-- R83's words, and words of R76, R77, R78, each read as those rules say (D1). -/
def Obligations.SpecWordsDecode : Prop :=
  decodeFront [0x1000002C] = some (.request (.wrcmd 0x2C), []) ∧
  decodeFront [0x2000F800] = some (.request (.wrdata 0xF800), []) ∧
  decodeFront [0x30000036, 0x00000048] = some (.request (.wrcmdp 0x36 0x48), []) ∧
  decodeFront [0x4000F800] = some (.request (.wragain 0xF800), []) ∧
  decodeFront [0x5000001F, 0x00000051] = some (.request (.wrmulti 81 0x1F), []) ∧
  decodeFront [0x60000000, 0x20000100, 0x00000005] =
    some (.request (.rawxfer 0x20000100 5), []) ∧
  decodeFront [0x70000000] = some (.request .reset, []) ∧
  decodeFront [0x8000002C, 0x1000002C] = some (.illegalOpcode 0x8000002C, [0x1000002C]) ∧
  decodeFront [0x30000036, 0x00010048] = some (.illegalReserved 0x30000036, []) ∧
  decodeFront [0x5000001F] = some (.incomplete 0x5000001F, [])

/-- Decode and encode agree: every request, with every operand value, is read back from its words, and the
words after it are left (R70 to R75). -/
def Obligations.DecodeOfEncode : Prop :=
  ∀ (i : Instr) (rest : List Word), decodeFront (encode i ++ rest) = some (.request i, rest)

/-- A request is read from no words but its own: no other encoding means it (R75, R79). -/
def Obligations.OneEncodingPerRequest : Prop :=
  ∀ (ws rest : List Word) (i : Instr),
    decodeFront ws = some (.request i, rest) → ws = encode i ++ rest

/-- The whole stream is its first item and then the stream after it (R80); a stream of requests reads as
those requests. -/
def Obligations.StreamDecodesItemByItem : Prop :=
  decodeStream [] = [] ∧
  (∀ (ws rest : List Word) (x : Item),
    decodeFront ws = some (x, rest) → decodeStream ws = x :: decodeStream rest) ∧
  (∀ is : List Instr, decodeStream (is.flatMap encode) = is.map Item.request)

/-- A header with a reserved opcode is one illegal word, whatever its other bits: a fault is recorded, the
bus is left alone, the block is IDLE again (R76, R203). -/
def Obligations.ReservedOpcodeRejected : Prop :=
  ∀ (s : State) (h : Word) (rest : List Word), s.seq = .idle → s.port = h :: rest →
    ((h.extractLsb' 28 4).toNat = 0 ∨ 8 ≤ (h.extractLsb' 28 4).toNat) →
    step s = .next { s with
      port := rest, reqIndex := s.reqIndex + 1
      faults := s.faults ++ [⟨s.reqIndex, .illegalOpcode h⟩] }

/-- A complete request with a defined opcode and a reserved bit set is illegal and takes the words of its
opcode: a fault is recorded and nothing else happens (R77, R73, R203). The words after the header are
`ext`, as many as R73 gives the opcode. -/
def Obligations.ReservedBitsRejected : Prop :=
  ∀ (s : State) (h : Word) (ext rest : List Word), s.seq = .idle → s.port = h :: ext ++ rest →
    1 ≤ (h.extractLsb' 28 4).toNat → (h.extractLsb' 28 4).toNat ≤ 7 →
    ext.length + 1 = requestLength (h.extractLsb' 28 4) →
    (h.extractLsb' 16 12 ≠ 0#12 ∨
      ((h.extractLsb' 28 4 = 6#4 ∨ h.extractLsb' 28 4 = 7#4) ∧ h.extractLsb' 0 16 ≠ 0#16) ∨
      (h.extractLsb' 28 4 = 3#4 ∧ ∃ e ∈ ext, e.extractLsb' 16 16 ≠ 0#16)) →
    step s = .next { s with
      port := rest, reqIndex := s.reqIndex + 1
      faults := s.faults ++ [⟨s.reqIndex, .illegalReserved h⟩] }

/-- A header with a defined opcode and too few words after it is incomplete, reserved bits or not: a fault is
recorded, nothing else happens, and the stream is at its end (R78, R73, R203). That the end of the port's list is
the end of the stream is the model's choice (log 3). -/
def Obligations.IncompleteRejected : Prop :=
  ∀ (s : State) (h : Word) (ext : List Word), s.seq = .idle → s.port = h :: ext →
    1 ≤ (h.extractLsb' 28 4).toNat → (h.extractLsb' 28 4).toNat ≤ 7 →
    ext.length + 1 < requestLength (h.extractLsb' 28 4) →
    step s = .next { s with
      port := [], reqIndex := s.reqIndex + 1
      faults := s.faults ++ [⟨s.reqIndex, .incompleteRequest h⟩] }

/-- The codes of R202. -/
def Obligations.FaultCodes : Prop :=
  (∀ h, (FaultInfo.illegalOpcode h).code = 1) ∧ (∀ h, (FaultInfo.illegalReserved h).code = 2) ∧
  (∀ v g d r, (FaultInfo.contractWragain v g d r).code = 3) ∧
  (∀ n v d r, (FaultInfo.contractWrmulti n v d r).code = 4) ∧
  (∀ b n, (FaultInfo.contractBuffer b n).code = 5) ∧
  (∀ h, (FaultInfo.incompleteRequest h).code = 6)

/-! ## A step -/

/-- A step runs the decoded request: in IDLE the request at the front of the port is accepted and its first
micro-step performed, its words taken off the port; a request in flight goes on (R27, R70). That accepting
takes no step of its own is log 4. -/
def Obligations.StepRunsTheRequest : Prop :=
  (∀ (s : State) (i : Instr) (rest : List Word), s.seq = .idle →
    decodeFront s.port = some (.request i, rest) → step s = exec i { s with port := rest }) ∧
  (∀ (s : State) (i : Instr) (m : MicroStep), s.seq = .busy i m → step s = exec i s)

/-- With nothing presented the block waits: the model's reading of IDLE (log 3). -/
def Obligations.EmptyPortWaits : Prop :=
  ∀ s : State, s.seq = .idle → s.port = [] → step s = .next s

/-- No two requests are interleaved: executing one while another is in flight has no move (R211 (2), D34;
log 12). -/
def Obligations.InterleavingHasNoMove : Prop :=
  ∀ (s : State) (i j : Instr) (m : MicroStep), s.seq = .busy j m → j ≠ i →
    exec i s = .refused .interleaved

/-- A step appends at most one bus event and at most one fault record, and takes neither away (R27, R31,
R32, R61). -/
def Obligations.TraceAndFaultsOnlyGrow : Prop :=
  ∀ s t : State, step s = .next t →
    (t.trace = s.trace ∨ ∃ e, t.trace = s.trace ++ [e]) ∧
    (t.faults = s.faults ∨ ∃ info, t.faults = s.faults ++ [⟨s.reqIndex, info⟩])

/-- The lines change only by the event a step appends, and as that event says (R24). -/
def Obligations.LinesFollowEvents : Prop :=
  ∀ s t : State, step s = .next t →
    (t.trace = s.trace ∧ t.lines = s.lines) ∨
    ∃ e, t.trace = s.trace ++ [e] ∧ t.lines = s.lines.after s.cfg e

/-- The three GPIO registers (R52, R53, R54). The bitwise reading of set and reset is the spec's own general
knowledge (D6, G1; log 9). -/
def Obligations.RegisterWrites : Prop :=
  (∀ (s : State) (v : Half), s.dw v =
    { s with lines := { s.lines with d := some v }, trace := s.trace ++ [.dw v] }) ∧
  (∀ (s : State) (m : Half), s.cs m =
    { s with
      lines := {
        d := s.lines.d
        wr := if m &&& s.cfg.writeStrobeMask ≠ 0 then some .high else s.lines.wr
        rs := if m &&& s.cfg.registerSelectMask ≠ 0 then some .high else s.lines.rs
        rst := if m &&& s.cfg.resetMask ≠ 0 then some .high else s.lines.rst }
      trace := s.trace ++ [.cs m] }) ∧
  (∀ (s : State) (m : Half), s.cr m =
    { s with
      lines := {
        d := s.lines.d
        wr := if m &&& s.cfg.writeStrobeMask ≠ 0 then some .low else s.lines.wr
        rs := if m &&& s.cfg.registerSelectMask ≠ 0 then some .low else s.lines.rs
        rst := if m &&& s.cfg.resetMask ≠ 0 then some .low else s.lines.rst }
      trace := s.trace ++ [.cr m] })

/-! ## The requests, micro-step by micro-step

Each says that `exec` answers a next state at every row of the request's table, and which. -/

/-- `WRCMD`, R140's four rows in command mode. -/
def Obligations.WrcmdSteps : Prop :=
  ∀ (cmd : Half) (s : State), s.cfg.valid = true →
    TransactionRows s (.wrcmd cmd) .command cmd
      (fun t => { t with ghost := ⟨none⟩, reqIndex := s.reqIndex + 1 })

/-- `WRDATA`, R140's four rows in data mode. -/
def Obligations.WrdataSteps : Prop :=
  ∀ (value : Half) (s : State), s.cfg.valid = true →
    TransactionRows s (.wrdata value) .data value
      (fun t => { t with ghost := ⟨some value⟩, reqIndex := s.reqIndex + 1 })

/-- `WRCMDP`, R140's four rows twice. That the latch record is cleared between the halves is the reading of
log 5. -/
def Obligations.WrcmdpSteps : Prop :=
  ∀ (cmd param : Half) (s : State), s.cfg.valid = true →
    TransactionRows s (.wrcmdp cmd param) .command cmd
      (fun t => { t with ghost := ⟨none⟩, seq := .busy (.wrcmdp cmd param) (.tx .data .latch) }) ∧
    TransactionRows s (.wrcmdp cmd param) .data param
      (fun t => { t with ghost := ⟨some param⟩, reqIndex := s.reqIndex + 1 })

/-- `WRAGAIN`: the contract test, then the two rows of a strobe-only transaction (R140, R144). -/
def Obligations.WragainSteps : Prop :=
  ∀ (value : Half) (s : State), s.cfg.valid = true →
    (s.AtStep (.wragain value) .check →
      exec (.wragain value) s = .next { s with
        faults := if s.ghost.lastData = some value then s.faults
          else s.faults ++ [⟨s.reqIndex,
            .contractWragain value s.ghost.lastData s.lines.d s.lines.rs⟩]
        seq := .busy (.wragain value) (.tx .data .strobeLow) }) ∧
    (s.AtStep (.wragain value) (.tx .data .strobeLow) →
      exec (.wragain value) s = .next (s.did { s.lines with wr := some .low }
        (.cr s.cfg.writeStrobeMask) (.busy (.wragain value) (.tx .data .strobeHigh)))) ∧
    (s.AtStep (.wragain value) (.tx .data .strobeHigh) →
      exec (.wragain value) s = .next { s.did { s.lines with wr := some .high }
        (.cs s.cfg.writeStrobeMask) .idle with reqIndex := s.reqIndex + 1 })

/-- `WRMULTI`: the nine rows of R161's table, with the registers as the rows before leave them. In which step
`eng.k` and `eng.j` change is log 18. -/
def Obligations.WrmultiSteps : Prop :=
  ∀ (count : Word) (value : Half) (s : State) (i : Instr), s.cfg.valid = true →
    i = .wrmulti count value →
    (s.AtStep i .check →
      exec i s = .next { s with
        faults := if count = 0 ∨ (s.lines.d = some value ∧ s.lines.rs = some .high) then s.faults
          else s.faults ++ [⟨s.reqIndex, .contractWrmulti count value s.lines.d s.lines.rs⟩]
        eng := { s.eng with rem := some count }
        seq := .busy i .entryTest }) ∧
    (∀ r : Word, s.AtStep i .entryTest → s.eng.rem = some r →
      exec i s = .next (
        if 40 ≤ r.toNat then { s with eng := { s.eng with k := some 0 }, seq := .busy i .batchLow }
        else { s with seq := .busy i .dispatch })) ∧
    (s.AtStep i .batchLow →
      exec i s = .next (s.did { s.lines with wr := some .low } (.cr s.cfg.writeStrobeMask)
        (.busy i .batchHigh))) ∧
    (∀ k : BitVec 6, s.AtStep i .batchHigh → s.eng.k = some k →
      exec i s = .next { s.did { s.lines with wr := some .high } (.cs s.cfg.writeStrobeMask)
        (.busy i (if k.toNat < 39 then .batchLow else .batchTest)) with
        eng := { s.eng with k := some (k + 1) } }) ∧
    (∀ r : Word, s.AtStep i .batchTest → s.eng.rem = some r →
      exec i s = .next (
        if 40 ≤ (r - 40).toNat then
          { s with eng := { s.eng with rem := some (r - 40), k := some 0 }, seq := .busy i .batchLow }
        else { s with eng := { s.eng with rem := some (r - 40) }, seq := .busy i .dispatch })) ∧
    (∀ r : Word, s.AtStep i .dispatch → s.eng.rem = some r → r.toNat ≤ 39 →
      exec i s = .next { s with
        eng := { s.eng with
          entry := some (BitVec.ofNat 6 (39 - r.toNat)), j := some (BitVec.ofNat 6 (39 - r.toNat)) }
        seq := .busy i (if 39 - r.toNat < 39 then .tailLow else .done) }) ∧
    (s.AtStep i .tailLow →
      exec i s = .next (s.did { s.lines with wr := some .low } (.cr s.cfg.writeStrobeMask)
        (.busy i .tailHigh))) ∧
    (∀ j : BitVec 6, s.AtStep i .tailHigh → s.eng.j = some j → j.toNat ≤ 38 →
      exec i s = .next { s.did { s.lines with wr := some .high } (.cs s.cfg.writeStrobeMask)
        (.busy i (if j.toNat < 38 then .tailLow else .done)) with
        eng := { s.eng with j := some (j + 1) } }) ∧
    (s.AtStep i .done →
      exec i s = .next { s with
        eng := ⟨none, none, none, none⟩, seq := .idle, reqIndex := s.reqIndex + 1 })

/-- `RAWXFER`: CHECK in its three cases, READ, and the four steps of the element's data transaction (R182).
That the latch record is written after each element is the reading of log 5, in which step `raw.i` changes that of
log 18. -/
def Obligations.RawxferSteps : Prop :=
  ∀ (b n : Word) (s : State) (i : Instr), s.cfg.valid = true → i = .rawxfer b n →
    (s.AtStep i .check → n = 0 →
      exec i s = .next { s with raw := ⟨none, none⟩, seq := .idle, reqIndex := s.reqIndex + 1 }) ∧
    (s.AtStep i .check → n ≠ 0 → bufferOK s.cfg s.mem b n = false →
      exec i s = .next { s with
        faults := s.faults ++ [⟨s.reqIndex, .contractBuffer b n⟩]
        seq := .idle, reqIndex := s.reqIndex + 1 }) ∧
    (s.AtStep i .check → n ≠ 0 → bufferOK s.cfg s.mem b n = true →
      exec i s = .next { s with
        raw := { s.raw with i := some 0 }, seq := .busy i .read }) ∧
    (∀ (x : Word) (v : Half), s.AtStep i .read → s.raw.i = some x →
      s.mem.read16 (b + 2 * x).toNat = some v →
      exec i s = .next { s.did s.lines (.read (b + 2 * x) v) (.busy i (.tx .data .latch)) with
        raw := { s.raw with word := some v } }) ∧
    (∀ (x : Word) (v : Half), s.raw.i = some x → s.raw.word = some v →
      TransactionRows s i .data v (fun t =>
        if x.toNat + 1 < n.toNat then
          { t with ghost := ⟨some v⟩, raw := { s.raw with i := some (x + 1) }, seq := .busy i .read }
        else
          { t with ghost := ⟨some v⟩, raw := ⟨none, none⟩, reqIndex := s.reqIndex + 1 }))

/-- `RESET`: the seven rows of R121's table. -/
def Obligations.ResetSteps : Prop :=
  ∀ s : State, s.cfg.valid = true →
    (s.AtStep .reset .rstSettle →
      exec .reset s = .next (s.did s.lines (.delay 10) (.busy .reset .rstHigh))) ∧
    (s.AtStep .reset .rstHigh →
      exec .reset s = .next (s.did { s.lines with rst := some .high } (.cs s.cfg.resetMask)
        (.busy .reset .rstHighWait))) ∧
    (s.AtStep .reset .rstHighWait →
      exec .reset s = .next (s.did s.lines (.delay 5) (.busy .reset .rstAssert))) ∧
    (s.AtStep .reset .rstAssert →
      exec .reset s = .next (s.did { s.lines with rst := some .low } (.cr s.cfg.resetMask)
        (.busy .reset .rstAssertWait))) ∧
    (s.AtStep .reset .rstAssertWait →
      exec .reset s = .next (s.did s.lines (.delay 50) (.busy .reset .rstRelease))) ∧
    (s.AtStep .reset .rstRelease →
      exec .reset s = .next (s.did { s.lines with rst := some .high } (.cs s.cfg.resetMask)
        (.busy .reset .rstReleaseWait))) ∧
    (s.AtStep .reset .rstReleaseWait →
      exec .reset s = .next { s.did s.lines (.delay 50) .idle with
        ghost := ⟨none⟩, reqIndex := s.reqIndex + 1 })

/-! ## The requests, whole

Each says that the request, accepted in any ready state, runs to a next state with all of its effect and none
other: no record but the one shown, no other component changed. How many steps that takes is
`RequestsEndInTheirSteps`. The captures are those of the trace by R33, for every draw. The last clause is the
encoding the request's rule gives (decision D1). -/

/-- R141. The capture is the spec's own inference there ("derived: from R33 and R145"). -/
def Obligations.WrcmdWhole : Prop :=
  ∀ (cmd : Half),
    (∀ s : State, s.Ready →
      (∃ k, s.serve (.wrcmd cmd) k = .next { s with
        lines := { s.lines with d := some cmd, rs := some .low, wr := some .high }
        ghost := ⟨none⟩
        trace := s.trace ++ [.dw cmd, .cr s.cfg.registerSelectMask, .cr s.cfg.writeStrobeMask,
          .cs s.cfg.writeStrobeMask]
        reqIndex := s.reqIndex + 1 }) ∧
      ∀ draw n, capturesFrom draw s.cfg n s.lines [.dw cmd, .cr s.cfg.registerSelectMask,
        .cr s.cfg.writeStrobeMask, .cs s.cfg.writeStrobeMask] = [⟨some .low, some cmd⟩]) ∧
    ∀ rest, decodeFront ((0x1#4 ++ (0#12 ++ cmd)) :: rest) = some (.request (.wrcmd cmd), rest)

/-- R142. The capture is the spec's own inference there ("derived: from R33 and R145"). -/
def Obligations.WrdataWhole : Prop :=
  ∀ (value : Half),
    (∀ s : State, s.Ready →
      (∃ k, s.serve (.wrdata value) k = .next { s with
        lines := { s.lines with d := some value, rs := some .high, wr := some .high }
        ghost := ⟨some value⟩
        trace := s.trace ++ [.dw value, .cs s.cfg.registerSelectMask, .cr s.cfg.writeStrobeMask,
          .cs s.cfg.writeStrobeMask]
        reqIndex := s.reqIndex + 1 }) ∧
      ∀ draw n, capturesFrom draw s.cfg n s.lines [.dw value, .cs s.cfg.registerSelectMask,
        .cr s.cfg.writeStrobeMask, .cs s.cfg.writeStrobeMask] = [⟨some .high, some value⟩]) ∧
    ∀ rest, decodeFront ((0x2#4 ++ (0#12 ++ value)) :: rest) = some (.request (.wrdata value), rest)

/-- R143. -/
def Obligations.WrcmdpWhole : Prop :=
  ∀ (cmd param : Half),
    (∀ s : State, s.Ready →
      (∃ k, s.serve (.wrcmdp cmd param) k = .next { s with
        lines := { s.lines with d := some param, rs := some .high, wr := some .high }
        ghost := ⟨some param⟩
        trace := s.trace ++ (transactionEvents s.cfg .command cmd ++
          transactionEvents s.cfg .data param)
        reqIndex := s.reqIndex + 1 }) ∧
      ∀ draw n, capturesFrom draw s.cfg n s.lines
        (transactionEvents s.cfg .command cmd ++ transactionEvents s.cfg .data param) =
          [⟨some .low, some cmd⟩, ⟨some .high, some param⟩]) ∧
    ∀ rest, decodeFront ((0x3#4 ++ (0#12 ++ cmd)) :: (0#16 ++ param) :: rest) =
      some (.request (.wrcmdp cmd param), rest)

/-- R144: the contract, kept or not, decides the record only. The pulse is emitted either way, and shows
`(1, value)` when no fault is raised, in every state of the invariant: the spec's own inference ("derived: from
R30"). -/
def Obligations.WragainWhole : Prop :=
  ∀ (value : Half),
    (∀ s : State, s.Ready →
      (∃ k, s.serve (.wragain value) k = .next { s with
        faults := if s.ghost.lastData = some value then s.faults
          else s.faults ++ [⟨s.reqIndex,
            .contractWragain value s.ghost.lastData s.lines.d s.lines.rs⟩]
        trace := s.trace ++ [.cr s.cfg.writeStrobeMask, .cs s.cfg.writeStrobeMask]
        reqIndex := s.reqIndex + 1 }) ∧
      (∀ draw n, capturesFrom draw s.cfg n s.lines
        [.cr s.cfg.writeStrobeMask, .cs s.cfg.writeStrobeMask] = [⟨s.lines.rs, s.lines.d⟩]) ∧
      (s.Inv → s.ghost.lastData = some value →
        s.lines.rs = some .high ∧ s.lines.d = some value)) ∧
    ∀ rest, decodeFront ((0x4#4 ++ (0#12 ++ value)) :: rest) =
      some (.request (.wragain value), rest)

/-- R160: exactly `count` pulses for every `count`, by the engine's batches and tail; the data port, RS and
the latch record as on entry, the engine's registers unknown. The captures are R167's, the spec's own inference
("derived: from R160 to R166 and R33"). -/
def Obligations.WrmultiWhole : Prop :=
  ∀ (count : Word) (value : Half),
    (∀ s : State, s.Ready →
      (∃ k, s.serve (.wrmulti count value) k = .next { s with
        faults := if count = 0 ∨ (s.lines.d = some value ∧ s.lines.rs = some .high) then s.faults
          else s.faults ++ [⟨s.reqIndex, .contractWrmulti count value s.lines.d s.lines.rs⟩]
        eng := ⟨none, none, none, none⟩
        trace := s.trace ++ pulses s.cfg count.toNat
        reqIndex := s.reqIndex + 1 }) ∧
      ∀ draw n, capturesFrom draw s.cfg n s.lines (pulses s.cfg count.toNat) =
        List.replicate count.toNat ⟨s.lines.rs, s.lines.d⟩) ∧
    ∀ rest, decodeFront ((0x5#4 ++ (0#12 ++ value)) :: count :: rest) =
      some (.request (.wrmulti count value), rest)

/-- R180: no words, a bad buffer, a good buffer. With a good buffer the events are those of the elements
launch memory holds at `b + 2i`, in order. -/
def Obligations.RawxferWhole : Prop :=
  ∀ (b n : Word),
    (∀ s : State, s.Ready →
      (n = 0 → (∃ k, s.serve (.rawxfer b n) k =
        .next { s with raw := ⟨none, none⟩, reqIndex := s.reqIndex + 1 })) ∧
      (n ≠ 0 → bufferOK s.cfg s.mem b n = false →
        (∃ k, s.serve (.rawxfer b n) k = .next { s with
          faults := s.faults ++ [⟨s.reqIndex, .contractBuffer b n⟩]
          reqIndex := s.reqIndex + 1 })) ∧
      (n ≠ 0 → bufferOK s.cfg s.mem b n = true → ∀ xs : List Half, xs.length = n.toNat →
        (∀ i < n.toNat, s.mem.read16 (b.toNat + 2 * i) = xs[i]?) →
        (∃ k, s.serve (.rawxfer b n) k = .next { s with
          lines := { s.lines with d := xs.getLast?, rs := some .high, wr := some .high }
          ghost := ⟨xs.getLast?⟩
          raw := ⟨none, none⟩
          trace := s.trace ++ rawEvents s.cfg b xs
          reqIndex := s.reqIndex + 1 }) ∧
        ∀ draw m, capturesFrom draw s.cfg m s.lines (rawEvents s.cfg b xs) =
          xs.map fun x => ⟨some .high, some x⟩)) ∧
    ∀ rest, decodeFront ((0x6#4 ++ (0#12 ++ 0#16)) :: b :: n :: rest) =
      some (.request (.rawxfer b n), rest)

/-- R120: the pulse train, and no capture, which is the spec's own inference there ("derived: from R33"). That
its delays come to 115 ms is R122's. -/
def Obligations.ResetWhole : Prop :=
  (∀ s : State, s.Ready →
    (∃ k, s.serve .reset k = .next { s with
      lines := { s.lines with rst := some .high }
      ghost := ⟨none⟩
      trace := s.trace ++ [.delay 10, .cs s.cfg.resetMask, .delay 5, .cr s.cfg.resetMask,
        .delay 50, .cs s.cfg.resetMask, .delay 50]
      reqIndex := s.reqIndex + 1 }) ∧
    (∀ draw n, capturesFrom draw s.cfg n s.lines [.delay 10, .cs s.cfg.resetMask, .delay 5,
      .cr s.cfg.resetMask, .delay 50, .cs s.cfg.resetMask, .delay 50] = []) ∧
    delayMs [.delay 10, .cs s.cfg.resetMask, .delay 5, .cr s.cfg.resetMask, .delay 50,
      .cs s.cfg.resetMask, .delay 50] = 115) ∧
  ∀ rest, decodeFront (0x70000000#32 :: rest) = some (.request .reset, rest)

/-! ## Frames: what a micro-step of a request leaves unchanged -/

/-- No request writes the configuration, the directions, the port or the launch memory, byte by byte (R22,
R25, R36, R50). -/
def Obligations.CommonFrame : Prop :=
  ∀ (i : Instr) (s t : State), exec i s = .next t →
    t.cfg = s.cfg ∧ t.dir = s.dir ∧ t.port = s.port ∧ t.mem = s.mem ∧
    ∀ a, t.mem.readByte a = s.mem.readByte a

/-- `WRCMD`, `WRDATA`, `WRCMDP` change D, RS, WR, the latch record, the trace and the sequencer only (R141,
R142, R143). -/
def Obligations.TransactionFrame : Prop :=
  ∀ (i : Instr) (s t : State), s.cfg.valid = true →
    ((∃ c, i = .wrcmd c) ∨ (∃ v, i = .wrdata v) ∨ (∃ c p, i = .wrcmdp c p)) →
    exec i s = .next t →
    t.lines.rst = s.lines.rst ∧ t.eng = s.eng ∧ t.raw = s.raw ∧ t.faults = s.faults ∧
    t.cfg = s.cfg ∧ t.dir = s.dir ∧ t.port = s.port ∧
    ∀ a, t.mem.readByte a = s.mem.readByte a

/-- `WRAGAIN` and `WRMULTI` never touch the data port, RS, RST or the latch record: only WR moves (R144,
R160, R168). `WRAGAIN` leaves the engine alone too. -/
def Obligations.PulseFrame : Prop :=
  ∀ (i : Instr) (s t : State), s.cfg.valid = true →
    ((∃ v, i = .wragain v) ∨ (∃ n v, i = .wrmulti n v)) → exec i s = .next t →
    t.lines.d = s.lines.d ∧ t.lines.rs = s.lines.rs ∧ t.lines.rst = s.lines.rst ∧
    t.ghost = s.ghost ∧ t.raw = s.raw ∧ t.cfg = s.cfg ∧ t.dir = s.dir ∧ t.port = s.port ∧
    ((∃ v, i = .wragain v) → t.eng = s.eng) ∧
    ∀ a, t.mem.readByte a = s.mem.readByte a

/-- `RAWXFER` leaves RST and the engine alone, and its buffer with all of memory (R180). -/
def Obligations.RawxferFrame : Prop :=
  ∀ (b n : Word) (s t : State), s.cfg.valid = true → exec (.rawxfer b n) s = .next t →
    t.lines.rst = s.lines.rst ∧ t.eng = s.eng ∧ t.cfg = s.cfg ∧ t.dir = s.dir ∧ t.port = s.port ∧
    ∀ a, t.mem.readByte a = s.mem.readByte a

/-- `RESET` resets the attached controller, not the block: D, RS, WR and the fault record stay (R221, R120).
It is the only request that writes RST (R124). -/
def Obligations.ResetFrame : Prop :=
  (∀ s t : State, s.cfg.valid = true → exec .reset s = .next t →
    t.lines.d = s.lines.d ∧ t.lines.rs = s.lines.rs ∧ t.lines.wr = s.lines.wr ∧
    t.faults = s.faults ∧ t.eng = s.eng ∧ t.raw = s.raw ∧ t.cfg = s.cfg ∧ t.dir = s.dir ∧
    t.port = s.port ∧ ∀ a, t.mem.readByte a = s.mem.readByte a) ∧
  (∀ (i : Instr) (s t : State), s.cfg.valid = true → i ≠ .reset → exec i s = .next t →
    t.lines.rst = s.lines.rst)

/-- `WRCMD`, `WRDATA`, `WRCMDP` and `RESET` raise no fault (R202). -/
def Obligations.FaultFreeRequests : Prop :=
  ∀ (i : Instr) (s t : State),
    ((∃ c, i = .wrcmd c) ∨ (∃ v, i = .wrdata v) ∨ (∃ c p, i = .wrcmdp c p) ∨ i = .reset) →
    exec i s = .next t → t.faults = s.faults

/-! ## The address space (spec/20_memory.md) -/

/-- The block touches its three registers and the elements of the transfer in flight, and no other address
(R50). -/
def Obligations.OnlyItsAddresses : Prop :=
  ∀ (s t : State) (e : Event) (x : Access), s.Inv → step s = .next t → t.trace = s.trace ++ [e] →
    e.access s.cfg = some x →
    (∃ v, x = .write16 s.cfg.dataOutputAddress v) ∨ (∃ m, x = .write16 s.cfg.controlSetAddress m) ∨
    (∃ m, x = .write16 s.cfg.controlResetAddress m) ∨
    ∃ b n i v, s.seq = .busy (.rawxfer b n) .read ∧ i < n.toNat ∧
      x = .read16 (b + 2 * BitVec.ofNat 32 i) v

/-- Every control write a step makes has a mask of exactly one of WR, RS, RST, in every state (R63, R26). -/
def Obligations.OneLinePerControlWrite : Prop :=
  ∀ (s t : State) (m : Half), step s = .next t →
    (t.trace = s.trace ++ [.cs m] ∨ t.trace = s.trace ++ [.cr m]) →
    m = s.cfg.writeStrobeMask ∨ m = s.cfg.registerSelectMask ∨ m = s.cfg.resetMask

/-- An element is its low byte at the lower address (R57; D20, G4: the spec's own general knowledge, log 8),
and is admitted exactly when both bytes are (log 7). -/
def Obligations.ElementBytes : Prop :=
  ∀ (m : Memory) (a : Nat),
    (∀ lo hi : Byte, m.readByte a = some lo → m.readByte (a + 1) = some hi →
      m.read16 a = some (lo.setWidth 16 ||| hi.setWidth 16 <<< 8)) ∧
    (m.readByte a = none ∨ m.readByte (a + 1) = none → m.read16 a = none)

/-- R181, condition by condition, for `n >= 1`. -/
def Obligations.BufferOkMeans : Prop :=
  ∀ (c : BusContext) (m : Memory) (b n : Word), n ≠ 0 →
    (bufferOK c m b n = true ↔
      b.getLsbD 0 = false ∧ b.toNat + 2 * n.toNat ≤ 2 ^ 32 ∧
      (∀ i < n.toNat, ∃ v, m.read16 (b.toNat + 2 * i) = some v) ∧
      ∀ x, b.toNat ≤ x → x < b.toNat + 2 * n.toNat →
        ∀ r : Word, r = c.dataOutputAddress ∨ r = c.controlSetAddress ∨ r = c.controlResetAddress →
          x ≠ r.toNat ∧ x ≠ r.toNat + 1)

/-! ## Construction (spec/40_binding_init.md) -/

/-- R101, check by check, and that a description which fails any of them gives no block (D4). -/
def Obligations.ValidBindingMeans : Prop :=
  (∀ c : BusContext, c.valid = true ↔
    (∃ p < 16, c.writeStrobeMask = 1#16 <<< p) ∧ (∃ p < 16, c.registerSelectMask = 1#16 <<< p) ∧
    (∃ p < 16, c.resetMask = 1#16 <<< p) ∧
    c.writeStrobeMask ≠ c.registerSelectMask ∧ c.writeStrobeMask ≠ c.resetMask ∧
    c.registerSelectMask ≠ c.resetMask ∧ c.dataPort ≠ c.controlPort ∧
    c.dataOutputAddress ≠ c.controlSetAddress ∧ c.dataOutputAddress ≠ c.controlResetAddress ∧
    c.controlSetAddress ≠ c.controlResetAddress ∧
    c.dataOutputAddress.getLsbD 0 = false ∧ c.controlSetAddress.getLsbD 0 = false ∧
    c.controlResetAddress.getLsbD 0 = false) ∧
  ∀ (p : PinDescription) (variant : ControlVariant) (port : List Word) (mem : Memory),
    p.familyRecognised = true → (resolve p variant).valid = false →
    construct p variant port mem = .error .invalidPins

/-- BIND resolves the configuration, or refuses: an unrecognised family, or pins that fail R101 (R100, R105,
R207). -/
def Obligations.BindOutcomes : Prop :=
  ∀ (p : PinDescription) (variant : ControlVariant) (port : List Word) (mem : Memory),
    (p.familyRecognised = false →
      construct p variant port mem = .error .unsupportedFamily) ∧
    (p.familyRecognised = true → (resolve p variant).valid = false →
      construct p variant port mem = .error .invalidPins) ∧
    (p.familyRecognised = true → (resolve p variant).valid = true →
      ∃ s, construct p variant port mem = .ok s ∧
        (s.cfg.controlSetAddress, s.cfg.controlResetAddress) = setResetAddresses p variant ∧
        s.cfg.writeStrobeMask = 1#16 <<< p.wrBit ∧ s.cfg.registerSelectMask = 1#16 <<< p.rsBit ∧
        s.cfg.resetMask = 1#16 <<< p.rstBit ∧ s.cfg.dataPort = p.dataPort ∧
        s.cfg.controlPort = p.controlPort ∧ s.cfg.dataOutputAddress = p.outputRegisterAddress)

/-- The state construction leaves, for every binding it accepts (R102, R103, R35). -/
def Obligations.ConstructionState : Prop :=
  ∀ (p : PinDescription) (variant : ControlVariant) (port : List Word) (mem : Memory) (s : State),
    construct p variant port mem = .ok s → s.cfg = resolve p variant ∧
    s.lines = ⟨none, some .high, none, none⟩ ∧ s.dir = ⟨true, true⟩ ∧ s.seq = .idle ∧
    s.eng = ⟨none, none, none, none⟩ ∧ s.raw = ⟨none, none⟩ ∧ s.ghost = ⟨none⟩ ∧ s.faults = [] ∧
    s.trace = [.cfg s.cfg.dataPort 0xFFFF,
      .cfg s.cfg.controlPort (s.cfg.writeStrobeMask ||| s.cfg.registerSelectMask ||| s.cfg.resetMask),
      .cs s.cfg.writeStrobeMask] ∧
    s.reqIndex = 0 ∧ s.port = port ∧ s.mem = mem

/-- The reset state is what construction makes of the binding of log 1, whatever the host will present and
admit. That reset presents nothing (log 3) and admits nothing (log 7) is the model's choice. -/
def Obligations.ResetIsConstruction : Prop :=
  ∀ (port : List Word) (mem : Memory),
    construct Config.bootPins .split port mem = .ok { State.reset with port := port, mem := mem }

/-- Whether INIT's `CS(WR_M)` was a rise of WR is a draw: at most one capture before the first request, of
unknown values (R229, D28; a free draw, for every value of it). -/
def Obligations.ConstructionEdgeIsADraw : Prop :=
  ∀ (draw : Nat → Bool) (p : PinDescription) (variant : ControlVariant) (port : List Word)
    (mem : Memory) (s : State), construct p variant port mem = .ok s →
    capturesFrom draw s.cfg 0 Lines.unknown s.trace =
      if draw 2 then [⟨none, none⟩] else []

/-- Before any data write a `WRAGAIN` faults, and so does a `WRMULTI` of at least one pulse (R223 (b); D10, D12,
D13): right after construction, and in every IDLE state of the invariant whose trace has no data-mode latch (no
`CS(RS_M)`, R140), after `RESET`, `WRCMD` or a rejected request too. That the contract test is the step of
acceptance is log 4. -/
def Obligations.DataWriteComesFirst : Prop :=
  (∀ (p : PinDescription) (variant : ControlVariant) (port : List Word) (mem : Memory) (s : State)
    (value : Half), construct p variant port mem = .ok s →
    (∃ t, exec (.wragain value) s = .next t ∧
      t.faults = [⟨0, .contractWragain value none none none⟩] ∧ t.trace = s.trace) ∧
    ∀ count : Word, count ≠ 0 → ∃ t, exec (.wrmulti count value) s = .next t ∧
      t.faults = [⟨0, .contractWrmulti count value none none⟩] ∧ t.trace = s.trace) ∧
  ∀ (s : State) (value : Half), s.Inv → s.seq = .idle → .cs s.cfg.registerSelectMask ∉ s.trace →
    (∃ t, exec (.wragain value) s = .next t ∧ t.trace = s.trace ∧
      t.faults = s.faults ++ [⟨s.reqIndex, .contractWragain value none s.lines.d s.lines.rs⟩]) ∧
    ∀ count : Word, count ≠ 0 → ∃ t, exec (.wrmulti count value) s = .next t ∧ t.trace = s.trace ∧
      t.faults = s.faults ++ [⟨s.reqIndex, .contractWrmulti count value s.lines.d s.lines.rs⟩]

/-! ## The invariant -/

/-- It holds at reset. -/
def Obligations.ResetStateHasInv : Prop := State.reset.Inv

/-- It holds after every construction, whatever the host will present. -/
def Obligations.ConstructionHasInv : Prop :=
  ∀ (p : PinDescription) (variant : ControlVariant) (port : List Word) (mem : Memory) (s : State),
    mem.wf = true → construct p variant port mem = .ok s → s.Inv

/-- Every step keeps it. -/
def Obligations.StepKeepsInv : Prop :=
  ∀ s t : State, s.Inv → step s = .next t → t.Inv

/-- The block never stops: in every state of the invariant a step answers a next state, so no fault and no
refusal of the model is reached (R27, R201: a fault record "does not stop the block"). -/
def Obligations.StepNeverStops : Prop :=
  ∀ s : State, s.Inv → ∃ t, step s = .next t

/-- No request produces a bus hazard (R225). -/
def Obligations.NoBusHazard : Prop :=
  ∀ (s t : State) (e : Event), s.Inv → step s = .next t → t.trace = s.trace ++ [e] →
    ¬ e.busHazard s.cfg s.lines

/-- Between a strobe's fall and its rise nothing happens: with WR low the next step is the rise (R226,
R145). -/
def Obligations.NothingInsideAPulse : Prop :=
  ∀ s : State, s.Inv → s.lines.wr = some .low →
    ∃ t, step s = .next t ∧ t.trace = s.trace ++ [.cs s.cfg.writeStrobeMask] ∧
      t.lines = { s.lines with wr := some .high }

/-- When the strobe of a full transaction is about to fall, at any point of any run after construction, the
data and the register-select of the transaction are on the lines and WR is high (R224). -/
def Obligations.SetupBeforeTheFall : Prop :=
  ∀ (p : PinDescription) (variant : ControlVariant) (port : List Word) (mem : Memory) (s t : State)
    (k : Nat), mem.wf = true → construct p variant port mem = .ok s → run k s = .next t →
    (∀ c, t.seq = .busy (.wrcmd c) (.tx .command .strobeLow) →
      t.lines.d = some c ∧ t.lines.rs = some .low ∧ t.lines.wr = some .high) ∧
    (∀ v, t.seq = .busy (.wrdata v) (.tx .data .strobeLow) →
      t.lines.d = some v ∧ t.lines.rs = some .high ∧ t.lines.wr = some .high) ∧
    (∀ c q, t.seq = .busy (.wrcmdp c q) (.tx .command .strobeLow) →
      t.lines.d = some c ∧ t.lines.rs = some .low ∧ t.lines.wr = some .high) ∧
    (∀ c q, t.seq = .busy (.wrcmdp c q) (.tx .data .strobeLow) →
      t.lines.d = some q ∧ t.lines.rs = some .high ∧ t.lines.wr = some .high) ∧
    (∀ b n, t.seq = .busy (.rawxfer b n) (.tx .data .strobeLow) →
      ∃ i x, t.raw.i = some i ∧ t.mem.read16 (b.toNat + 2 * i.toNat) = some x ∧
        t.lines.d = some x ∧ t.lines.rs = some .high ∧ t.lines.wr = some .high)

/-- WR is idle high whenever the block is IDLE, at any point of any run after construction (R227). -/
def Obligations.IdleHighBetweenRequests : Prop :=
  ∀ (p : PinDescription) (variant : ControlVariant) (port : List Word) (mem : Memory) (s t : State)
    (k : Nat), mem.wf = true → construct p variant port mem = .ok s → run k s = .next t →
    t.seq = .idle → t.lines.wr = some .high

/-- Whenever the block is IDLE and the latch record holds a value, that value is on the data port in data
mode (R30). The rule says "whenever"; within a request the record is not yet updated (log 5). -/
def Obligations.LatchRecordTellsTheLines : Prop :=
  ∀ (p : PinDescription) (variant : ControlVariant) (port : List Word) (mem : Memory) (s t : State)
    (k : Nat) (v : Half), mem.wf = true → construct p variant port mem = .ok s →
    run k s = .next t → t.seq = .idle → t.ghost.lastData = some v →
    t.lines.d = some v ∧ t.lines.rs = some .high

/-- A request raises at most one fault, and the records stand in stream order (R203, R204). -/
def Obligations.OneFaultPerRequest : Prop :=
  ∀ (p : PinDescription) (variant : ControlVariant) (port : List Word) (mem : Memory) (s t : State)
    (k : Nat), mem.wf = true → construct p variant port mem = .ok s → run k s = .next t →
    t.faults.Pairwise (fun f g => f.reqIndex < g.reqIndex) ∧
    ∀ f ∈ t.faults, f.reqIndex ≤ t.reqIndex

/-! ## Runs -/

/-- Every request ends, after exactly the steps of R231 and not before. -/
def Obligations.RequestsEndInTheirSteps : Prop :=
  ∀ (s : State) (i : Instr) (rest : List Word), s.Inv → s.seq = .idle →
    s.port = encode i ++ rest →
    (∃ t, run (s.stepsOf i) s = .next t ∧ t.seq = .idle ∧ t.port = rest ∧
      t.reqIndex = s.reqIndex + 1) ∧
    ∀ k, 0 < k → k < s.stepsOf i → ∃ t m, run k s = .next t ∧ t.seq = .busy i m

/-- Every run ends: whatever words the host has presented, legal or not, after some steps all are accepted
and the block is IDLE (R80, R231, R233). That an empty port is the end of the stream is the model's choice
(log 3). -/
def Obligations.EveryStreamEnds : Prop :=
  ∀ s : State, s.Inv → ∃ k t, run k s = .next t ∧ t.runEnded = true

/-- `WRMULTI(count, value)` with its contract met, `count >= 1`, shows the controller what `WRDATA(value)`
and then `count - 1` times `WRAGAIN(value)` show it (R169, C1; the spec's own inference). The end of each run is
read by log 3. -/
def Obligations.BulkEqualsRepeats : Prop :=
  ∀ (s : State) (count : Word) (value : Half) (draw : Nat → Bool), s.Inv → s.seq = .idle →
    count ≠ 0 → s.lines.d = some value → s.lines.rs = some .high →
    ∃ k t k' t',
      run k { s with port := encode (.wrmulti count value) } = .next t ∧ t.runEnded = true ∧
      run k' { s with
        port := encode (.wrdata value) ++
          (List.replicate (count.toNat - 1) (Instr.wragain value)).flatMap encode } = .next t' ∧
      t'.runEnded = true ∧
      capturesSince draw s t = capturesSince draw s t' ∧ t.faults = t'.faults

/-- `RAWXFER(b, n)` with a good buffer does, apart from its reads, what `WRDATA(x_0), ..., WRDATA(x_{n-1})`
do (R183; the spec's own inference). The end of each run is read by log 3. -/
def Obligations.RawEqualsDataWrites : Prop :=
  ∀ (s : State) (b n : Word), s.Inv → s.seq = .idle → n ≠ 0 → bufferOK s.cfg s.mem b n = true →
    ∃ k t k' t',
      run k { s with port := encode (.rawxfer b n) } = .next t ∧ t.runEnded = true ∧
      run k' { s with
        port := ((s.mem.elements b.toNat n.toNat).map Instr.wrdata).flatMap encode } = .next t' ∧
      t'.runEnded = true ∧ t.lines = t'.lines ∧ t.ghost = t'.ghost ∧ t.faults = t'.faults ∧
      (t.trace.drop s.trace.length).filter (fun e => match e with | .read _ _ => false | _ => true) =
        t'.trace.drop s.trace.length

/-- `WRCMDP(c, p)` is `WRCMD(c)` and then `WRDATA(p)`: same trace, lines and latch record (R143, R82). That eight
steps are enough on both sides counts no step for acceptance (log 4). -/
def Obligations.CommandParamIsTwoRequests : Prop :=
  ∀ (s : State) (c p : Half), s.Ready →
    ∃ t t', run 8 { s with port := encode (.wrcmdp c p) } = .next t ∧
      run 8 { s with port := encode (.wrcmd c) ++ encode (.wrdata p) } = .next t' ∧
      t.trace = t'.trace ∧ t.lines = t'.lines ∧ t.ghost = t'.ghost ∧ t.faults = t'.faults ∧
      t.seq = .idle ∧ t'.seq = .idle ∧ t.port = [] ∧ t'.port = []

/-- `fill n, v` assembles and emits `n` captures `(1, v)`, with no fault (R82; the spec's own inference). The end of the run is read by log 3. -/
def Obligations.FillWritesNTimes : Prop :=
  ∀ (s : State) (n v : Nat) (draw : Nat → Bool), s.Inv → s.seq = .idle → n ≤ 2 ^ 32 → v < 2 ^ 16 →
    ∃ ws k t, (AsmLine.fill n v).assemble = some ws ∧ run k { s with port := ws } = .next t ∧
      t.runEnded = true ∧ t.faults = s.faults ∧
      capturesSince draw s t = List.replicate n ⟨some .high, some (BitVec.ofNat 16 v)⟩
end

