-- ==== Sys2Proof/Laws/Lines.lean ====
section
/-! SUPPORT. What the set and reset registers do under a valid binding (R101, R53, R54): the three masks
are disjoint single bits, so each control write moves exactly one line. And the laws of replaying a trace. -/

namespace Sys2Proof.Machine

/-- Two different one-bit masks share no bit, and a one-bit mask is not 0. -/
theorem oneBit_disjoint : ∀ p < 16, ∀ q < 16, (1#16 <<< p) ≠ (1#16 <<< q) →
    (1#16 <<< p) &&& (1#16 <<< q) = 0#16 := by
  decide +revert

theorem oneBit_iff {m : Half} : oneBit m = true ↔ ∃ p < 16, m = 1#16 <<< p := by
  simp [oneBit]

theorem oneBit_and_of_ne {m n : Half} (hm : oneBit m = true) (hn : oneBit n = true) (h : m ≠ n) :
    m &&& n = 0 := by
  obtain ⟨p, hp, rfl⟩ := oneBit_iff.mp hm
  obtain ⟨q, hq, rfl⟩ := oneBit_iff.mp hn
  exact oneBit_disjoint p hp q hq h

theorem oneBit_ne_zero {m : Half} (hm : oneBit m = true) : m ≠ 0#16 := by
  obtain ⟨p, hp, rfl⟩ := oneBit_iff.mp hm
  revert p; decide

/-- The checks of R101 one by one. -/
theorem valid_iff (c : BusContext) : c.valid = true ↔
    oneBit c.writeStrobeMask = true ∧ oneBit c.registerSelectMask = true ∧
    oneBit c.resetMask = true ∧ c.writeStrobeMask ≠ c.registerSelectMask ∧
    c.writeStrobeMask ≠ c.resetMask ∧ c.registerSelectMask ≠ c.resetMask ∧
    c.dataPort ≠ c.controlPort ∧ c.dataOutputAddress ≠ c.controlSetAddress ∧
    c.dataOutputAddress ≠ c.controlResetAddress ∧ c.controlSetAddress ≠ c.controlResetAddress ∧
    aligned2 c.dataOutputAddress = true ∧ aligned2 c.controlSetAddress = true ∧
    aligned2 c.controlResetAddress = true := by
  simp [BusContext.valid, and_assoc]

/-- The masks of a valid binding: each meets itself and no other (R101 (1), (2)). -/
structure MasksApart (c : BusContext) : Prop where
  wr : c.writeStrobeMask ≠ 0#16
  rs : c.registerSelectMask ≠ 0#16
  rst : c.resetMask ≠ 0#16
  wr_rs : c.writeStrobeMask &&& c.registerSelectMask = 0#16
  wr_rst : c.writeStrobeMask &&& c.resetMask = 0#16
  rs_wr : c.registerSelectMask &&& c.writeStrobeMask = 0#16
  rs_rst : c.registerSelectMask &&& c.resetMask = 0#16
  rst_wr : c.resetMask &&& c.writeStrobeMask = 0#16
  rst_rs : c.resetMask &&& c.registerSelectMask = 0#16

theorem masksApart {c : BusContext} (h : c.valid = true) : MasksApart c := by
  obtain ⟨hw, hr, ht, wr, wt, rt, -⟩ := (valid_iff c).mp h
  exact ⟨oneBit_ne_zero hw, oneBit_ne_zero hr, oneBit_ne_zero ht, oneBit_and_of_ne hw hr wr,
    oneBit_and_of_ne hw ht wt, oneBit_and_of_ne hr hw wr.symm, oneBit_and_of_ne hr ht rt,
    oneBit_and_of_ne ht hw wt.symm, oneBit_and_of_ne ht hr rt.symm⟩

variable {c : BusContext} (h : c.valid = true) (l : Lines)
include h

theorem driveHigh_wr : l.driveHigh c c.writeStrobeMask = { l with wr := some .high } := by
  have m := masksApart h
  simp [Lines.driveHigh, m.wr, m.wr_rs, m.wr_rst]

theorem driveLow_wr : l.driveLow c c.writeStrobeMask = { l with wr := some .low } := by
  have m := masksApart h
  simp [Lines.driveLow, m.wr, m.wr_rs, m.wr_rst]

theorem driveHigh_rs : l.driveHigh c c.registerSelectMask = { l with rs := some .high } := by
  have m := masksApart h
  simp [Lines.driveHigh, m.rs, m.rs_wr, m.rs_rst]

theorem driveLow_rs : l.driveLow c c.registerSelectMask = { l with rs := some .low } := by
  have m := masksApart h
  simp [Lines.driveLow, m.rs, m.rs_wr, m.rs_rst]

theorem driveHigh_rst : l.driveHigh c c.resetMask = { l with rst := some .high } := by
  have m := masksApart h
  simp [Lines.driveHigh, m.rst, m.rst_wr, m.rst_rs]

theorem driveLow_rst : l.driveLow c c.resetMask = { l with rst := some .low } := by
  have m := masksApart h
  simp [Lines.driveLow, m.rst, m.rst_wr, m.rst_rs]

omit h

/-- The data lines are moved by a data write only (R24). -/
@[simp] theorem driveHigh_d (c : BusContext) (m : Half) : (l.driveHigh c m).d = l.d := rfl
@[simp] theorem driveLow_d (c : BusContext) (m : Half) : (l.driveLow c m).d = l.d := rfl

/-! ## Replay -/

@[simp] theorem replay_nil (c : BusContext) : Lines.replay c l [] = l := rfl

@[simp] theorem replay_append (c : BusContext) (es fs : List Event) :
    Lines.replay c l (es ++ fs) = Lines.replay c (Lines.replay c l es) fs :=
  List.foldl_append ..

@[simp] theorem replay_cons (c : BusContext) (e : Event) (es : List Event) :
    Lines.replay c l (e :: es) = Lines.replay c (l.after c e) es := rfl

theorem cleanTrace_append (c : BusContext) (es fs : List Event) :
    CleanTrace c l (es ++ fs) ↔ CleanTrace c l es ∧ CleanTrace c (Lines.replay c l es) fs := by
  induction es generalizing l with
  | nil => simp [CleanTrace]
  | cons e es ih => simp [CleanTrace, ih, and_assoc]

theorem capturesFrom_append (draw : Nat → Bool) (c : BusContext) (n : Nat) (es fs : List Event) :
    capturesFrom draw c n l (es ++ fs) =
      capturesFrom draw c n l es ++
        capturesFrom draw c (n + es.length) (Lines.replay c l es) fs := by
  induction es generalizing l n with
  | nil => simp [capturesFrom]
  | cons e es ih => simp [capturesFrom, ih, Nat.add_comm, Nat.add_left_comm]

end Sys2Proof.Machine
end

