-- ==== Sys2Proof/Laws/Memory.lean ====
section
/-! SUPPORT. The launch memory: every operation keeps the canonical form, a byte put in is read back, and
no other byte changes; and what a good buffer promises (R181, R67). -/

namespace Sys2Proof.Machine

theorem Memory.wfFrom_cons (lo : Nat) (x : Host.Cell) (rest : Memory) :
    Memory.wfFrom lo (x :: rest) = true ↔
      lo ≤ x.1 ∧ x.1 < 2 ^ 32 ∧ Memory.wfFrom (x.1 + 1) rest = true := by
  simp [Memory.wfFrom, and_assoc]

theorem Memory.admitByte_wfFrom (a : Word) (b : Byte) (m : Memory) {lo : Nat}
    (hm : m.wfFrom lo = true) (ha : lo ≤ a.toNat) : (m.admitByte a b).wfFrom lo = true := by
  induction m generalizing lo with
  | nil => simp [Memory.admitByte, Memory.wfFrom, ha]; omega
  | cons x rest ih =>
    obtain ⟨h1, h2, h3⟩ := (Memory.wfFrom_cons ..).mp hm
    unfold Memory.admitByte
    split
    · exact (Memory.wfFrom_cons ..).mpr
        ⟨ha, a.isLt, (Memory.wfFrom_cons ..).mpr ⟨by simpa using ‹_ < _›, h2, h3⟩⟩
    · split
      · rename_i h; exact (Memory.wfFrom_cons ..).mpr ⟨ha, a.isLt, h ▸ h3⟩
      · exact (Memory.wfFrom_cons ..).mpr ⟨h1, h2, ih h3 (by simp at *; omega)⟩

/-- Putting a byte into the launch memory keeps the canonical form. -/
theorem Memory.admitByte_wf (a : Word) (b : Byte) {m : Memory} (hm : m.wf = true) :
    (m.admitByte a b).wf = true :=
  m.admitByte_wfFrom a b hm (Nat.zero_le _)

theorem Memory.admit16_wf (a : Word) (v : Half) {m : Memory} (hm : m.wf = true) :
    (m.admit16 a v).wf = true :=
  Memory.admitByte_wf _ _ (Memory.admitByte_wf _ _ hm)

/-- A byte put in is read back. -/
theorem Memory.readByte_admitByte_same (a : Word) (b : Byte) (m : Memory) :
    (m.admitByte a b).readByte a.toNat = some b := by
  induction m with
  | nil => simp [Memory.admitByte, Memory.readByte]
  | cons x rest ih =>
    obtain ⟨a', b'⟩ := x
    unfold Memory.admitByte
    split
    · simp [Memory.readByte]
    · split
      · simp [Memory.readByte]
      · rename_i h; simp [Memory.readByte, h, ih]

/-- Putting a byte in changes no other byte. -/
theorem Memory.readByte_admitByte_other (a : Word) (b : Byte) (m : Memory) {x : Nat}
    (hx : x ≠ a.toNat) : (m.admitByte a b).readByte x = m.readByte x := by
  induction m with
  | nil => simp [Memory.admitByte, Memory.readByte, hx.symm]
  | cons y rest ih =>
    obtain ⟨a', b'⟩ := y
    unfold Memory.admitByte
    split
    · simp [Memory.readByte, hx.symm]
    · split
      · rename_i h; simp [Memory.readByte, h, hx.symm]
      · simp [Memory.readByte, ih]

/-- An element can be read exactly when both its bytes are admitted (R67). -/
theorem Memory.read16_isSome (m : Memory) (a : Nat) :
    (m.read16 a).isSome ↔ (m.readByte a).isSome ∧ (m.readByte (a + 1)).isSome := by
  unfold Memory.read16
  cases m.readByte a <;> cases m.readByte (a + 1) <;> simp

/-- Every element of an admitted range can be read (R181 (3)). -/
theorem Memory.admitsRange_iff (m : Memory) (a n : Nat) :
    m.admitsRange a n = true ↔ ∀ i < n, (m.read16 (a + 2 * i)).isSome := by
  induction n generalizing a with
  | zero => simp [Memory.admitsRange]
  | succ n ih =>
    simp only [Memory.admitsRange, Bool.and_eq_true, ih]
    constructor
    · rintro ⟨h0, h⟩ i hi
      cases i with
      | zero => simpa using h0
      | succ i =>
        have := h i (by omega)
        rwa [show a + 2 + 2 * i = a + 2 * (i + 1) by omega] at this
    · intro h
      refine ⟨by simpa using h 0 (by omega), fun i hi => ?_⟩
      have := h (i + 1) (by omega)
      rwa [show a + 2 * (i + 1) = a + 2 + 2 * i by omega] at this

/-- What a good buffer promises (R181). -/
theorem bufferOK_iff (c : BusContext) (m : Memory) (b n : Word) :
    bufferOK c m b n = true ↔
      aligned2 b = true ∧ b.toNat + 2 * n.toNat ≤ 2 ^ 32 ∧
      clearOf b n c.dataOutputAddress = true ∧ clearOf b n c.controlSetAddress = true ∧
      clearOf b n c.controlResetAddress = true ∧
      ∀ i < n.toNat, (m.read16 (b.toNat + 2 * i)).isSome := by
  simp [bufferOK, Memory.admitsRange_iff, and_assoc]

/-- Inside a good buffer the address of an element does not wrap (R181 (2)). -/
theorem elementAddress_toNat {c : BusContext} {m : Memory} {b n i : Word}
    (hok : bufferOK c m b n = true) (hi : i.toNat < n.toNat) :
    (elementAddress b i).toNat = b.toNat + 2 * i.toNat := by
  obtain ⟨-, hw, -⟩ := (bufferOK_iff c m b n).mp hok
  have h2 : (2 * i : Word).toNat = 2 * i.toNat := by
    rw [BitVec.toNat_mul, show (2 : Word).toNat = 2 from rfl]; omega
  rw [elementAddress, BitVec.toNat_add, h2]; omega

/-- Every element of a good buffer is admitted, so READ never meets an unadmitted address (R67). -/
theorem bufferOK_read {c : BusContext} {m : Memory} {b n i : Word}
    (hok : bufferOK c m b n = true) (hi : i.toNat < n.toNat) :
    ∃ x, m.read16 (elementAddress b i).toNat = some x := by
  rw [elementAddress_toNat hok hi]
  exact Option.isSome_iff_exists.mp (((bufferOK_iff c m b n).mp hok).2.2.2.2.2 _ hi)

end Sys2Proof.Machine
end

