-- ==== Sys2Proof/Laws/State.lean ====
section
/-! SUPPORT. Every field after every named update of the state: one lemma each, true by unfolding the
update once, so that no later proof unfolds a record. -/

namespace Sys2Proof.Machine

variable (s : State)

/-! ## one bus event (R12, R32) -/

@[simp] theorem State.emit_cfg (e : Event) : (s.emit e).cfg = s.cfg := rfl
@[simp] theorem State.emit_lines (e : Event) : (s.emit e).lines = s.lines.after s.cfg e := rfl
@[simp] theorem State.emit_dir (e : Event) : (s.emit e).dir = s.dir := rfl
@[simp] theorem State.emit_seq (e : Event) : (s.emit e).seq = s.seq := rfl
@[simp] theorem State.emit_eng (e : Event) : (s.emit e).eng = s.eng := rfl
@[simp] theorem State.emit_raw (e : Event) : (s.emit e).raw = s.raw := rfl
@[simp] theorem State.emit_ghost (e : Event) : (s.emit e).ghost = s.ghost := rfl
@[simp] theorem State.emit_faults (e : Event) : (s.emit e).faults = s.faults := rfl
@[simp] theorem State.emit_trace (e : Event) : (s.emit e).trace = s.trace ++ [e] := rfl
@[simp] theorem State.emit_port (e : Event) : (s.emit e).port = s.port := rfl
@[simp] theorem State.emit_reqIndex (e : Event) : (s.emit e).reqIndex = s.reqIndex := rfl
@[simp] theorem State.emit_mem (e : Event) : (s.emit e).mem = s.mem := rfl

/-! ## `DW(v)` (R52) -/

@[simp] theorem State.dw_cfg (v : Half) : (s.dw v).cfg = s.cfg := rfl
@[simp] theorem State.dw_lines (v : Half) : (s.dw v).lines = { s.lines with d := some v } := rfl
@[simp] theorem State.dw_dir (v : Half) : (s.dw v).dir = s.dir := rfl
@[simp] theorem State.dw_seq (v : Half) : (s.dw v).seq = s.seq := rfl
@[simp] theorem State.dw_eng (v : Half) : (s.dw v).eng = s.eng := rfl
@[simp] theorem State.dw_raw (v : Half) : (s.dw v).raw = s.raw := rfl
@[simp] theorem State.dw_ghost (v : Half) : (s.dw v).ghost = s.ghost := rfl
@[simp] theorem State.dw_faults (v : Half) : (s.dw v).faults = s.faults := rfl
@[simp] theorem State.dw_trace (v : Half) : (s.dw v).trace = s.trace ++ [.dw v] := rfl
@[simp] theorem State.dw_port (v : Half) : (s.dw v).port = s.port := rfl
@[simp] theorem State.dw_reqIndex (v : Half) : (s.dw v).reqIndex = s.reqIndex := rfl
@[simp] theorem State.dw_mem (v : Half) : (s.dw v).mem = s.mem := rfl

/-! ## `CS(m)` (R53) -/

@[simp] theorem State.cs_cfg (m : Half) : (s.cs m).cfg = s.cfg := rfl
@[simp] theorem State.cs_lines (m : Half) : (s.cs m).lines = s.lines.driveHigh s.cfg m := rfl
@[simp] theorem State.cs_dir (m : Half) : (s.cs m).dir = s.dir := rfl
@[simp] theorem State.cs_seq (m : Half) : (s.cs m).seq = s.seq := rfl
@[simp] theorem State.cs_eng (m : Half) : (s.cs m).eng = s.eng := rfl
@[simp] theorem State.cs_raw (m : Half) : (s.cs m).raw = s.raw := rfl
@[simp] theorem State.cs_ghost (m : Half) : (s.cs m).ghost = s.ghost := rfl
@[simp] theorem State.cs_faults (m : Half) : (s.cs m).faults = s.faults := rfl
@[simp] theorem State.cs_trace (m : Half) : (s.cs m).trace = s.trace ++ [.cs m] := rfl
@[simp] theorem State.cs_port (m : Half) : (s.cs m).port = s.port := rfl
@[simp] theorem State.cs_reqIndex (m : Half) : (s.cs m).reqIndex = s.reqIndex := rfl
@[simp] theorem State.cs_mem (m : Half) : (s.cs m).mem = s.mem := rfl

/-! ## `CR(m)` (R54) -/

@[simp] theorem State.cr_cfg (m : Half) : (s.cr m).cfg = s.cfg := rfl
@[simp] theorem State.cr_lines (m : Half) : (s.cr m).lines = s.lines.driveLow s.cfg m := rfl
@[simp] theorem State.cr_dir (m : Half) : (s.cr m).dir = s.dir := rfl
@[simp] theorem State.cr_seq (m : Half) : (s.cr m).seq = s.seq := rfl
@[simp] theorem State.cr_eng (m : Half) : (s.cr m).eng = s.eng := rfl
@[simp] theorem State.cr_raw (m : Half) : (s.cr m).raw = s.raw := rfl
@[simp] theorem State.cr_ghost (m : Half) : (s.cr m).ghost = s.ghost := rfl
@[simp] theorem State.cr_faults (m : Half) : (s.cr m).faults = s.faults := rfl
@[simp] theorem State.cr_trace (m : Half) : (s.cr m).trace = s.trace ++ [.cr m] := rfl
@[simp] theorem State.cr_port (m : Half) : (s.cr m).port = s.port := rfl
@[simp] theorem State.cr_reqIndex (m : Half) : (s.cr m).reqIndex = s.reqIndex := rfl
@[simp] theorem State.cr_mem (m : Half) : (s.cr m).mem = s.mem := rfl

/-! ## `DLY(n)` (R209) -/

@[simp] theorem State.dly_cfg (n : Nat) : (s.dly n).cfg = s.cfg := rfl
@[simp] theorem State.dly_lines (n : Nat) : (s.dly n).lines = s.lines := rfl
@[simp] theorem State.dly_dir (n : Nat) : (s.dly n).dir = s.dir := rfl
@[simp] theorem State.dly_seq (n : Nat) : (s.dly n).seq = s.seq := rfl
@[simp] theorem State.dly_eng (n : Nat) : (s.dly n).eng = s.eng := rfl
@[simp] theorem State.dly_raw (n : Nat) : (s.dly n).raw = s.raw := rfl
@[simp] theorem State.dly_ghost (n : Nat) : (s.dly n).ghost = s.ghost := rfl
@[simp] theorem State.dly_faults (n : Nat) : (s.dly n).faults = s.faults := rfl
@[simp] theorem State.dly_trace (n : Nat) : (s.dly n).trace = s.trace ++ [.delay n] := rfl
@[simp] theorem State.dly_port (n : Nat) : (s.dly n).port = s.port := rfl
@[simp] theorem State.dly_reqIndex (n : Nat) : (s.dly n).reqIndex = s.reqIndex := rfl
@[simp] theorem State.dly_mem (n : Nat) : (s.dly n).mem = s.mem := rfl

/-! ## `CFG(p, m)` (R102) -/

@[simp] theorem State.cfgPort_cfg (p : PortId) (m : Half) : (s.cfgPort p m).cfg = s.cfg := rfl
@[simp] theorem State.cfgPort_lines (p : PortId) (m : Half) : (s.cfgPort p m).lines = s.lines := rfl
@[simp] theorem State.cfgPort_dir (p : PortId) (m : Half) : (s.cfgPort p m).dir = s.dir := rfl
@[simp] theorem State.cfgPort_seq (p : PortId) (m : Half) : (s.cfgPort p m).seq = s.seq := rfl
@[simp] theorem State.cfgPort_eng (p : PortId) (m : Half) : (s.cfgPort p m).eng = s.eng := rfl
@[simp] theorem State.cfgPort_raw (p : PortId) (m : Half) : (s.cfgPort p m).raw = s.raw := rfl
@[simp] theorem State.cfgPort_ghost (p : PortId) (m : Half) : (s.cfgPort p m).ghost = s.ghost := rfl
@[simp] theorem State.cfgPort_faults (p : PortId) (m : Half) :
    (s.cfgPort p m).faults = s.faults := rfl
@[simp] theorem State.cfgPort_trace (p : PortId) (m : Half) :
    (s.cfgPort p m).trace = s.trace ++ [.cfg p m] := rfl
@[simp] theorem State.cfgPort_port (p : PortId) (m : Half) : (s.cfgPort p m).port = s.port := rfl
@[simp] theorem State.cfgPort_reqIndex (p : PortId) (m : Half) :
    (s.cfgPort p m).reqIndex = s.reqIndex := rfl
@[simp] theorem State.cfgPort_mem (p : PortId) (m : Half) : (s.cfgPort p m).mem = s.mem := rfl

/-! ## STROBE_LOW (R140) -/

@[simp] theorem State.strobeLow_cfg : s.strobeLow.cfg = s.cfg := rfl
@[simp] theorem State.strobeLow_lines :
    s.strobeLow.lines = s.lines.driveLow s.cfg s.cfg.writeStrobeMask := rfl
@[simp] theorem State.strobeLow_dir : s.strobeLow.dir = s.dir := rfl
@[simp] theorem State.strobeLow_seq : s.strobeLow.seq = s.seq := rfl
@[simp] theorem State.strobeLow_eng : s.strobeLow.eng = s.eng := rfl
@[simp] theorem State.strobeLow_raw : s.strobeLow.raw = s.raw := rfl
@[simp] theorem State.strobeLow_ghost : s.strobeLow.ghost = s.ghost := rfl
@[simp] theorem State.strobeLow_faults : s.strobeLow.faults = s.faults := rfl
@[simp] theorem State.strobeLow_trace :
    s.strobeLow.trace = s.trace ++ [.cr s.cfg.writeStrobeMask] := rfl
@[simp] theorem State.strobeLow_port : s.strobeLow.port = s.port := rfl
@[simp] theorem State.strobeLow_reqIndex : s.strobeLow.reqIndex = s.reqIndex := rfl
@[simp] theorem State.strobeLow_mem : s.strobeLow.mem = s.mem := rfl

/-! ## STROBE_HIGH (R140) -/

@[simp] theorem State.strobeHigh_cfg : s.strobeHigh.cfg = s.cfg := rfl
@[simp] theorem State.strobeHigh_lines :
    s.strobeHigh.lines = s.lines.driveHigh s.cfg s.cfg.writeStrobeMask := rfl
@[simp] theorem State.strobeHigh_dir : s.strobeHigh.dir = s.dir := rfl
@[simp] theorem State.strobeHigh_seq : s.strobeHigh.seq = s.seq := rfl
@[simp] theorem State.strobeHigh_eng : s.strobeHigh.eng = s.eng := rfl
@[simp] theorem State.strobeHigh_raw : s.strobeHigh.raw = s.raw := rfl
@[simp] theorem State.strobeHigh_ghost : s.strobeHigh.ghost = s.ghost := rfl
@[simp] theorem State.strobeHigh_faults : s.strobeHigh.faults = s.faults := rfl
@[simp] theorem State.strobeHigh_trace :
    s.strobeHigh.trace = s.trace ++ [.cs s.cfg.writeStrobeMask] := rfl
@[simp] theorem State.strobeHigh_port : s.strobeHigh.port = s.port := rfl
@[simp] theorem State.strobeHigh_reqIndex : s.strobeHigh.reqIndex = s.reqIndex := rfl
@[simp] theorem State.strobeHigh_mem : s.strobeHigh.mem = s.mem := rfl

/-! ## raising a fault (R201) -/

@[simp] theorem State.raise_cfg (info : FaultInfo) : (s.raise info).cfg = s.cfg := rfl
@[simp] theorem State.raise_lines (info : FaultInfo) : (s.raise info).lines = s.lines := rfl
@[simp] theorem State.raise_dir (info : FaultInfo) : (s.raise info).dir = s.dir := rfl
@[simp] theorem State.raise_seq (info : FaultInfo) : (s.raise info).seq = s.seq := rfl
@[simp] theorem State.raise_eng (info : FaultInfo) : (s.raise info).eng = s.eng := rfl
@[simp] theorem State.raise_raw (info : FaultInfo) : (s.raise info).raw = s.raw := rfl
@[simp] theorem State.raise_ghost (info : FaultInfo) : (s.raise info).ghost = s.ghost := rfl
@[simp] theorem State.raise_faults (info : FaultInfo) :
    (s.raise info).faults = s.faults ++ [⟨s.reqIndex, info⟩] := rfl
@[simp] theorem State.raise_trace (info : FaultInfo) : (s.raise info).trace = s.trace := rfl
@[simp] theorem State.raise_port (info : FaultInfo) : (s.raise info).port = s.port := rfl
@[simp] theorem State.raise_reqIndex (info : FaultInfo) :
    (s.raise info).reqIndex = s.reqIndex := rfl
@[simp] theorem State.raise_mem (info : FaultInfo) : (s.raise info).mem = s.mem := rfl

/-! ## moving the sequencer (R27) -/

@[simp] theorem State.goto_cfg (i : Instr) (m : MicroStep) : (s.goto i m).cfg = s.cfg := rfl
@[simp] theorem State.goto_lines (i : Instr) (m : MicroStep) : (s.goto i m).lines = s.lines := rfl
@[simp] theorem State.goto_dir (i : Instr) (m : MicroStep) : (s.goto i m).dir = s.dir := rfl
@[simp] theorem State.goto_seq (i : Instr) (m : MicroStep) : (s.goto i m).seq = .busy i m := rfl
@[simp] theorem State.goto_eng (i : Instr) (m : MicroStep) : (s.goto i m).eng = s.eng := rfl
@[simp] theorem State.goto_raw (i : Instr) (m : MicroStep) : (s.goto i m).raw = s.raw := rfl
@[simp] theorem State.goto_ghost (i : Instr) (m : MicroStep) : (s.goto i m).ghost = s.ghost := rfl
@[simp] theorem State.goto_faults (i : Instr) (m : MicroStep) :
    (s.goto i m).faults = s.faults := rfl
@[simp] theorem State.goto_trace (i : Instr) (m : MicroStep) : (s.goto i m).trace = s.trace := rfl
@[simp] theorem State.goto_port (i : Instr) (m : MicroStep) : (s.goto i m).port = s.port := rfl
@[simp] theorem State.goto_reqIndex (i : Instr) (m : MicroStep) :
    (s.goto i m).reqIndex = s.reqIndex := rfl
@[simp] theorem State.goto_mem (i : Instr) (m : MicroStep) : (s.goto i m).mem = s.mem := rfl

/-! ## the end of a request (R27) -/

@[simp] theorem State.finish_cfg : s.finish.cfg = s.cfg := rfl
@[simp] theorem State.finish_lines : s.finish.lines = s.lines := rfl
@[simp] theorem State.finish_dir : s.finish.dir = s.dir := rfl
@[simp] theorem State.finish_seq : s.finish.seq = .idle := rfl
@[simp] theorem State.finish_eng : s.finish.eng = s.eng := rfl
@[simp] theorem State.finish_raw : s.finish.raw = s.raw := rfl
@[simp] theorem State.finish_ghost : s.finish.ghost = s.ghost := rfl
@[simp] theorem State.finish_faults : s.finish.faults = s.faults := rfl
@[simp] theorem State.finish_trace : s.finish.trace = s.trace := rfl
@[simp] theorem State.finish_port : s.finish.port = s.port := rfl
@[simp] theorem State.finish_reqIndex : s.finish.reqIndex = s.reqIndex + 1 := rfl
@[simp] theorem State.finish_mem : s.finish.mem = s.mem := rfl

/-! ## the latch record (R30) -/

@[simp] theorem State.latched_cfg (v : Option Half) : (s.latched v).cfg = s.cfg := rfl
@[simp] theorem State.latched_lines (v : Option Half) : (s.latched v).lines = s.lines := rfl
@[simp] theorem State.latched_dir (v : Option Half) : (s.latched v).dir = s.dir := rfl
@[simp] theorem State.latched_seq (v : Option Half) : (s.latched v).seq = s.seq := rfl
@[simp] theorem State.latched_eng (v : Option Half) : (s.latched v).eng = s.eng := rfl
@[simp] theorem State.latched_raw (v : Option Half) : (s.latched v).raw = s.raw := rfl
@[simp] theorem State.latched_ghost (v : Option Half) : (s.latched v).ghost = ⟨v⟩ := rfl
@[simp] theorem State.latched_faults (v : Option Half) : (s.latched v).faults = s.faults := rfl
@[simp] theorem State.latched_trace (v : Option Half) : (s.latched v).trace = s.trace := rfl
@[simp] theorem State.latched_port (v : Option Half) : (s.latched v).port = s.port := rfl
@[simp] theorem State.latched_reqIndex (v : Option Half) :
    (s.latched v).reqIndex = s.reqIndex := rfl
@[simp] theorem State.latched_mem (v : Option Half) : (s.latched v).mem = s.mem := rfl

/-! ## `eng.rem <- count` (R161) -/

@[simp] theorem State.loadCount_cfg (n : Word) : (s.loadCount n).cfg = s.cfg := rfl
@[simp] theorem State.loadCount_lines (n : Word) : (s.loadCount n).lines = s.lines := rfl
@[simp] theorem State.loadCount_dir (n : Word) : (s.loadCount n).dir = s.dir := rfl
@[simp] theorem State.loadCount_seq (n : Word) : (s.loadCount n).seq = s.seq := rfl
@[simp] theorem State.loadCount_eng (n : Word) :
    (s.loadCount n).eng = { s.eng with rem := some n } := rfl
@[simp] theorem State.loadCount_raw (n : Word) : (s.loadCount n).raw = s.raw := rfl
@[simp] theorem State.loadCount_ghost (n : Word) : (s.loadCount n).ghost = s.ghost := rfl
@[simp] theorem State.loadCount_faults (n : Word) : (s.loadCount n).faults = s.faults := rfl
@[simp] theorem State.loadCount_trace (n : Word) : (s.loadCount n).trace = s.trace := rfl
@[simp] theorem State.loadCount_port (n : Word) : (s.loadCount n).port = s.port := rfl
@[simp] theorem State.loadCount_reqIndex (n : Word) : (s.loadCount n).reqIndex = s.reqIndex := rfl
@[simp] theorem State.loadCount_mem (n : Word) : (s.loadCount n).mem = s.mem := rfl

/-! ## `eng.* <- ⊥` (R161) -/

@[simp] theorem State.clearEng_cfg : s.clearEng.cfg = s.cfg := rfl
@[simp] theorem State.clearEng_lines : s.clearEng.lines = s.lines := rfl
@[simp] theorem State.clearEng_dir : s.clearEng.dir = s.dir := rfl
@[simp] theorem State.clearEng_seq : s.clearEng.seq = s.seq := rfl
@[simp] theorem State.clearEng_eng : s.clearEng.eng = Eng.unknown := rfl
@[simp] theorem State.clearEng_raw : s.clearEng.raw = s.raw := rfl
@[simp] theorem State.clearEng_ghost : s.clearEng.ghost = s.ghost := rfl
@[simp] theorem State.clearEng_faults : s.clearEng.faults = s.faults := rfl
@[simp] theorem State.clearEng_trace : s.clearEng.trace = s.trace := rfl
@[simp] theorem State.clearEng_port : s.clearEng.port = s.port := rfl
@[simp] theorem State.clearEng_reqIndex : s.clearEng.reqIndex = s.reqIndex := rfl
@[simp] theorem State.clearEng_mem : s.clearEng.mem = s.mem := rfl

/-! ## `eng.rem <- eng.rem - 40` (R165) -/

@[simp] theorem State.takeBatch_cfg : s.takeBatch.cfg = s.cfg := rfl
@[simp] theorem State.takeBatch_lines : s.takeBatch.lines = s.lines := rfl
@[simp] theorem State.takeBatch_dir : s.takeBatch.dir = s.dir := rfl
@[simp] theorem State.takeBatch_seq : s.takeBatch.seq = s.seq := rfl
@[simp] theorem State.takeBatch_eng :
    s.takeBatch.eng =
      { s.eng with rem := s.eng.rem.map (· - BitVec.ofNat 32 Config.batch) } := rfl
@[simp] theorem State.takeBatch_raw : s.takeBatch.raw = s.raw := rfl
@[simp] theorem State.takeBatch_ghost : s.takeBatch.ghost = s.ghost := rfl
@[simp] theorem State.takeBatch_faults : s.takeBatch.faults = s.faults := rfl
@[simp] theorem State.takeBatch_trace : s.takeBatch.trace = s.trace := rfl
@[simp] theorem State.takeBatch_port : s.takeBatch.port = s.port := rfl
@[simp] theorem State.takeBatch_reqIndex : s.takeBatch.reqIndex = s.reqIndex := rfl
@[simp] theorem State.takeBatch_mem : s.takeBatch.mem = s.mem := rfl

/-! ## beginning a batch (R161) -/

@[simp] theorem State.enterBatch_cfg (i : Instr) : (s.enterBatch i).cfg = s.cfg := rfl
@[simp] theorem State.enterBatch_lines (i : Instr) : (s.enterBatch i).lines = s.lines := rfl
@[simp] theorem State.enterBatch_dir (i : Instr) : (s.enterBatch i).dir = s.dir := rfl
@[simp] theorem State.enterBatch_seq (i : Instr) : (s.enterBatch i).seq = .busy i .batchLow := rfl
@[simp] theorem State.enterBatch_eng (i : Instr) :
    (s.enterBatch i).eng = { s.eng with k := some 0 } := rfl
@[simp] theorem State.enterBatch_raw (i : Instr) : (s.enterBatch i).raw = s.raw := rfl
@[simp] theorem State.enterBatch_ghost (i : Instr) : (s.enterBatch i).ghost = s.ghost := rfl
@[simp] theorem State.enterBatch_faults (i : Instr) : (s.enterBatch i).faults = s.faults := rfl
@[simp] theorem State.enterBatch_trace (i : Instr) : (s.enterBatch i).trace = s.trace := rfl
@[simp] theorem State.enterBatch_port (i : Instr) : (s.enterBatch i).port = s.port := rfl
@[simp] theorem State.enterBatch_reqIndex (i : Instr) :
    (s.enterBatch i).reqIndex = s.reqIndex := rfl
@[simp] theorem State.enterBatch_mem (i : Instr) : (s.enterBatch i).mem = s.mem := rfl

/-! ## after a batch pulse (R161) -/

@[simp] theorem State.nextInBatch_cfg (i : Instr) : (s.nextInBatch i).cfg = s.cfg := rfl
@[simp] theorem State.nextInBatch_lines (i : Instr) : (s.nextInBatch i).lines = s.lines := rfl
@[simp] theorem State.nextInBatch_dir (i : Instr) : (s.nextInBatch i).dir = s.dir := rfl
@[simp] theorem State.nextInBatch_seq (i : Instr) :
    (s.nextInBatch i).seq = .busy i (if below39 s.eng.k then .batchLow else .batchTest) := rfl
@[simp] theorem State.nextInBatch_eng (i : Instr) :
    (s.nextInBatch i).eng = { s.eng with k := s.eng.k.map (· + 1) } := rfl
@[simp] theorem State.nextInBatch_raw (i : Instr) : (s.nextInBatch i).raw = s.raw := rfl
@[simp] theorem State.nextInBatch_ghost (i : Instr) : (s.nextInBatch i).ghost = s.ghost := rfl
@[simp] theorem State.nextInBatch_faults (i : Instr) : (s.nextInBatch i).faults = s.faults := rfl
@[simp] theorem State.nextInBatch_trace (i : Instr) : (s.nextInBatch i).trace = s.trace := rfl
@[simp] theorem State.nextInBatch_port (i : Instr) : (s.nextInBatch i).port = s.port := rfl
@[simp] theorem State.nextInBatch_reqIndex (i : Instr) :
    (s.nextInBatch i).reqIndex = s.reqIndex := rfl
@[simp] theorem State.nextInBatch_mem (i : Instr) : (s.nextInBatch i).mem = s.mem := rfl

/-! ## the remainder dispatch (R166) -/

@[simp] theorem State.enterTail_cfg (i : Instr) : (s.enterTail i).cfg = s.cfg := rfl
@[simp] theorem State.enterTail_lines (i : Instr) : (s.enterTail i).lines = s.lines := rfl
@[simp] theorem State.enterTail_dir (i : Instr) : (s.enterTail i).dir = s.dir := rfl
@[simp] theorem State.enterTail_seq (i : Instr) :
    (s.enterTail i).seq =
      .busy i (if below39 (s.eng.rem.map tailEntry) then .tailLow else .done) := rfl
@[simp] theorem State.enterTail_eng (i : Instr) :
    (s.enterTail i).eng =
      { s.eng with entry := s.eng.rem.map tailEntry, j := s.eng.rem.map tailEntry } := rfl
@[simp] theorem State.enterTail_raw (i : Instr) : (s.enterTail i).raw = s.raw := rfl
@[simp] theorem State.enterTail_ghost (i : Instr) : (s.enterTail i).ghost = s.ghost := rfl
@[simp] theorem State.enterTail_faults (i : Instr) : (s.enterTail i).faults = s.faults := rfl
@[simp] theorem State.enterTail_trace (i : Instr) : (s.enterTail i).trace = s.trace := rfl
@[simp] theorem State.enterTail_port (i : Instr) : (s.enterTail i).port = s.port := rfl
@[simp] theorem State.enterTail_reqIndex (i : Instr) : (s.enterTail i).reqIndex = s.reqIndex := rfl
@[simp] theorem State.enterTail_mem (i : Instr) : (s.enterTail i).mem = s.mem := rfl

/-! ## after a tail pulse (R161) -/

@[simp] theorem State.nextInTail_cfg (i : Instr) : (s.nextInTail i).cfg = s.cfg := rfl
@[simp] theorem State.nextInTail_lines (i : Instr) : (s.nextInTail i).lines = s.lines := rfl
@[simp] theorem State.nextInTail_dir (i : Instr) : (s.nextInTail i).dir = s.dir := rfl
@[simp] theorem State.nextInTail_seq (i : Instr) :
    (s.nextInTail i).seq =
      .busy i (if below39 (s.eng.j.map (· + 1)) then .tailLow else .done) := rfl
@[simp] theorem State.nextInTail_eng (i : Instr) :
    (s.nextInTail i).eng = { s.eng with j := s.eng.j.map (· + 1) } := rfl
@[simp] theorem State.nextInTail_raw (i : Instr) : (s.nextInTail i).raw = s.raw := rfl
@[simp] theorem State.nextInTail_ghost (i : Instr) : (s.nextInTail i).ghost = s.ghost := rfl
@[simp] theorem State.nextInTail_faults (i : Instr) : (s.nextInTail i).faults = s.faults := rfl
@[simp] theorem State.nextInTail_trace (i : Instr) : (s.nextInTail i).trace = s.trace := rfl
@[simp] theorem State.nextInTail_port (i : Instr) : (s.nextInTail i).port = s.port := rfl
@[simp] theorem State.nextInTail_reqIndex (i : Instr) :
    (s.nextInTail i).reqIndex = s.reqIndex := rfl
@[simp] theorem State.nextInTail_mem (i : Instr) : (s.nextInTail i).mem = s.mem := rfl

/-! ## `raw.i <- i` (R180) -/

@[simp] theorem State.rawIndex_cfg (i : Word) : (s.rawIndex i).cfg = s.cfg := rfl
@[simp] theorem State.rawIndex_lines (i : Word) : (s.rawIndex i).lines = s.lines := rfl
@[simp] theorem State.rawIndex_dir (i : Word) : (s.rawIndex i).dir = s.dir := rfl
@[simp] theorem State.rawIndex_seq (i : Word) : (s.rawIndex i).seq = s.seq := rfl
@[simp] theorem State.rawIndex_eng (i : Word) : (s.rawIndex i).eng = s.eng := rfl
@[simp] theorem State.rawIndex_raw (i : Word) :
    (s.rawIndex i).raw = { s.raw with i := some i } := rfl
@[simp] theorem State.rawIndex_ghost (i : Word) : (s.rawIndex i).ghost = s.ghost := rfl
@[simp] theorem State.rawIndex_faults (i : Word) : (s.rawIndex i).faults = s.faults := rfl
@[simp] theorem State.rawIndex_trace (i : Word) : (s.rawIndex i).trace = s.trace := rfl
@[simp] theorem State.rawIndex_port (i : Word) : (s.rawIndex i).port = s.port := rfl
@[simp] theorem State.rawIndex_reqIndex (i : Word) : (s.rawIndex i).reqIndex = s.reqIndex := rfl
@[simp] theorem State.rawIndex_mem (i : Word) : (s.rawIndex i).mem = s.mem := rfl

/-! ## `raw.* <- ⊥` (R180) -/

@[simp] theorem State.clearRaw_cfg : s.clearRaw.cfg = s.cfg := rfl
@[simp] theorem State.clearRaw_lines : s.clearRaw.lines = s.lines := rfl
@[simp] theorem State.clearRaw_dir : s.clearRaw.dir = s.dir := rfl
@[simp] theorem State.clearRaw_seq : s.clearRaw.seq = s.seq := rfl
@[simp] theorem State.clearRaw_eng : s.clearRaw.eng = s.eng := rfl
@[simp] theorem State.clearRaw_raw : s.clearRaw.raw = Raw.unknown := rfl
@[simp] theorem State.clearRaw_ghost : s.clearRaw.ghost = s.ghost := rfl
@[simp] theorem State.clearRaw_faults : s.clearRaw.faults = s.faults := rfl
@[simp] theorem State.clearRaw_trace : s.clearRaw.trace = s.trace := rfl
@[simp] theorem State.clearRaw_port : s.clearRaw.port = s.port := rfl
@[simp] theorem State.clearRaw_reqIndex : s.clearRaw.reqIndex = s.reqIndex := rfl
@[simp] theorem State.clearRaw_mem : s.clearRaw.mem = s.mem := rfl

/-! ## READ (R182) -/

@[simp] theorem State.readElement_cfg (a : Word) (v : Half) : (s.readElement a v).cfg = s.cfg := rfl
@[simp] theorem State.readElement_lines (a : Word) (v : Half) :
    (s.readElement a v).lines = s.lines := rfl
@[simp] theorem State.readElement_dir (a : Word) (v : Half) : (s.readElement a v).dir = s.dir := rfl
@[simp] theorem State.readElement_seq (a : Word) (v : Half) : (s.readElement a v).seq = s.seq := rfl
@[simp] theorem State.readElement_eng (a : Word) (v : Half) : (s.readElement a v).eng = s.eng := rfl
@[simp] theorem State.readElement_raw (a : Word) (v : Half) :
    (s.readElement a v).raw = { s.raw with word := some v } := rfl
@[simp] theorem State.readElement_ghost (a : Word) (v : Half) :
    (s.readElement a v).ghost = s.ghost := rfl
@[simp] theorem State.readElement_faults (a : Word) (v : Half) :
    (s.readElement a v).faults = s.faults := rfl
@[simp] theorem State.readElement_trace (a : Word) (v : Half) :
    (s.readElement a v).trace = s.trace ++ [.read a v] := rfl
@[simp] theorem State.readElement_port (a : Word) (v : Half) :
    (s.readElement a v).port = s.port := rfl
@[simp] theorem State.readElement_reqIndex (a : Word) (v : Half) :
    (s.readElement a v).reqIndex = s.reqIndex := rfl
@[simp] theorem State.readElement_mem (a : Word) (v : Half) : (s.readElement a v).mem = s.mem := rfl

/-! ## the request port (R70) -/

@[simp] theorem State.withPort_cfg (ws : List Word) : (s.withPort ws).cfg = s.cfg := rfl
@[simp] theorem State.withPort_lines (ws : List Word) : (s.withPort ws).lines = s.lines := rfl
@[simp] theorem State.withPort_dir (ws : List Word) : (s.withPort ws).dir = s.dir := rfl
@[simp] theorem State.withPort_seq (ws : List Word) : (s.withPort ws).seq = s.seq := rfl
@[simp] theorem State.withPort_eng (ws : List Word) : (s.withPort ws).eng = s.eng := rfl
@[simp] theorem State.withPort_raw (ws : List Word) : (s.withPort ws).raw = s.raw := rfl
@[simp] theorem State.withPort_ghost (ws : List Word) : (s.withPort ws).ghost = s.ghost := rfl
@[simp] theorem State.withPort_faults (ws : List Word) : (s.withPort ws).faults = s.faults := rfl
@[simp] theorem State.withPort_trace (ws : List Word) : (s.withPort ws).trace = s.trace := rfl
@[simp] theorem State.withPort_port (ws : List Word) : (s.withPort ws).port = ws := rfl
@[simp] theorem State.withPort_reqIndex (ws : List Word) :
    (s.withPort ws).reqIndex = s.reqIndex := rfl
@[simp] theorem State.withPort_mem (ws : List Word) : (s.withPort ws).mem = s.mem := rfl

/-! ## a rejected request (R76 to R78) -/

@[simp] theorem State.rejectRequest_cfg (info : FaultInfo) :
    (s.rejectRequest info).cfg = s.cfg := rfl
@[simp] theorem State.rejectRequest_lines (info : FaultInfo) :
    (s.rejectRequest info).lines = s.lines := rfl
@[simp] theorem State.rejectRequest_dir (info : FaultInfo) :
    (s.rejectRequest info).dir = s.dir := rfl
@[simp] theorem State.rejectRequest_seq (info : FaultInfo) :
    (s.rejectRequest info).seq = .idle := rfl
@[simp] theorem State.rejectRequest_eng (info : FaultInfo) :
    (s.rejectRequest info).eng = s.eng := rfl
@[simp] theorem State.rejectRequest_raw (info : FaultInfo) :
    (s.rejectRequest info).raw = s.raw := rfl
@[simp] theorem State.rejectRequest_ghost (info : FaultInfo) :
    (s.rejectRequest info).ghost = s.ghost := rfl
@[simp] theorem State.rejectRequest_faults (info : FaultInfo) :
    (s.rejectRequest info).faults = s.faults ++ [⟨s.reqIndex, info⟩] := rfl
@[simp] theorem State.rejectRequest_trace (info : FaultInfo) :
    (s.rejectRequest info).trace = s.trace := rfl
@[simp] theorem State.rejectRequest_port (info : FaultInfo) :
    (s.rejectRequest info).port = s.port := rfl
@[simp] theorem State.rejectRequest_reqIndex (info : FaultInfo) :
    (s.rejectRequest info).reqIndex = s.reqIndex + 1 := rfl
@[simp] theorem State.rejectRequest_mem (info : FaultInfo) :
    (s.rejectRequest info).mem = s.mem := rfl

/-! ## SELECT (R140): one of `CR(RS_M)` and `CS(RS_M)`, so only the lines and the trace change -/

@[simp] theorem State.select_cfg (mode : BusMode) : (s.select mode).cfg = s.cfg := by
  cases mode <;> rfl
@[simp] theorem State.select_dir (mode : BusMode) : (s.select mode).dir = s.dir := by
  cases mode <;> rfl
@[simp] theorem State.select_seq (mode : BusMode) : (s.select mode).seq = s.seq := by
  cases mode <;> rfl
@[simp] theorem State.select_eng (mode : BusMode) : (s.select mode).eng = s.eng := by
  cases mode <;> rfl
@[simp] theorem State.select_raw (mode : BusMode) : (s.select mode).raw = s.raw := by
  cases mode <;> rfl
@[simp] theorem State.select_ghost (mode : BusMode) : (s.select mode).ghost = s.ghost := by
  cases mode <;> rfl
@[simp] theorem State.select_faults (mode : BusMode) : (s.select mode).faults = s.faults := by
  cases mode <;> rfl
@[simp] theorem State.select_port (mode : BusMode) : (s.select mode).port = s.port := by
  cases mode <;> rfl
@[simp] theorem State.select_reqIndex (mode : BusMode) : (s.select mode).reqIndex = s.reqIndex := by
  cases mode <;> rfl
@[simp] theorem State.select_mem (mode : BusMode) : (s.select mode).mem = s.mem := by
  cases mode <;> rfl

@[simp] theorem State.select_lines_command :
    (s.select .command).lines = s.lines.driveLow s.cfg s.cfg.registerSelectMask := rfl
@[simp] theorem State.select_lines_data :
    (s.select .data).lines = s.lines.driveHigh s.cfg s.cfg.registerSelectMask := rfl
@[simp] theorem State.select_trace_command :
    (s.select .command).trace = s.trace ++ [.cr s.cfg.registerSelectMask] := rfl
@[simp] theorem State.select_trace_data :
    (s.select .data).trace = s.trace ++ [.cs s.cfg.registerSelectMask] := rfl

end Sys2Proof.Machine
end

