-- ==== Sys2Proof/Laws/Exec.lean ====
section
/-! SUPPORT. What each shared operation of the requests can do, once: finding the micro-step, the steps of
a transaction, the contract tests, the engine's branches, the port. -/

namespace Sys2Proof.Machine

/-! ## Finding the micro-step (R27) -/

/-- At the micro-step `m` of the request `i`, the request's table decides. -/
theorem microStep_at {s : State} {i : Instr} {m : MicroStep} (h : s.AtStep i m)
    (table : MicroStep → Host.Outcome State Fault Refusal) :
    s.microStep i (firstStep i) table = table m := by
  rcases h with h | ⟨h, rfl⟩ <;> simp [State.microStep, h]

/-- If the request `i` answers a next state, it was at one of its micro-steps and its table said so. -/
theorem microStep_next {s t : State} {i : Instr}
    {table : MicroStep → Host.Outcome State Fault Refusal}
    (h : s.microStep i (firstStep i) table = .next t) :
    ∃ m, s.AtStep i m ∧ table m = .next t := by
  unfold State.microStep at h
  split at h
  · rename_i hs; exact ⟨_, .inr ⟨hs, rfl⟩, h⟩
  · rename_i j m hs
    split at h
    · rename_i hj; exact ⟨m, .inl (hj ▸ hs), h⟩
    · cases h

/-- The table of each request. -/
def tableOf (s : State) : Instr → MicroStep → Host.Outcome State Fault Refusal
  | .wrcmd c => s.wrcmdTable c
  | .wrdata v => s.wrdataTable v
  | .wrcmdp c p => s.wrcmdpTable c p
  | .wragain v => s.wragainTable v
  | .wrmulti n v => s.wrmultiTable n v
  | .rawxfer b n => s.rawxferTable b n
  | .reset => s.resetTable

/-- `exec` runs the request's table at the micro-step the sequencer names. -/
theorem exec_eq_microStep (i : Instr) (s : State) :
    exec i s = s.microStep i (firstStep i) (tableOf s i) := by
  cases i <;> rfl

theorem exec_at {s : State} {i : Instr} {m : MicroStep} (h : s.AtStep i m) :
    exec i s = tableOf s i m := by
  rw [exec_eq_microStep, microStep_at h]

/-- If `exec` answers a next state, one row of the request's table gave it. -/
theorem exec_next {s t : State} {i : Instr} (h : exec i s = .next t) :
    ∃ m, s.AtStep i m ∧ tableOf s i m = .next t :=
  microStep_next (exec_eq_microStep i s ▸ h)

/-! ## The lines of a valid binding after the control micro-operations -/

section
variable {s : State} (h : s.cfg.valid = true)
include h

theorem strobeLow_lines : s.strobeLow.lines = { s.lines with wr := some .low } := by
  simp [driveLow_wr h]

theorem strobeHigh_lines : s.strobeHigh.lines = { s.lines with wr := some .high } := by
  simp [driveHigh_wr h]

theorem select_lines (mode : BusMode) :
    (s.select mode).lines = { s.lines with rs := some mode.level } := by
  cases mode <;> simp [BusMode.level, driveHigh_rs h, driveLow_rs h]

end

theorem select_trace (s : State) (mode : BusMode) :
    (s.select mode).trace = s.trace ++ [selectEvent s.cfg mode] := by
  cases mode <;> rfl

/-! ## The contract tests (R144, R160, R162, R180) -/

/-- The `WRAGAIN` test changes the fault record at most. -/
theorem checkWragain_eq (s : State) (v : Half) :
    s.checkWragain v = { s with
      faults := if s.ghost.lastData = some v then s.faults
        else s.faults ++ [⟨s.reqIndex,
          .contractWragain v s.ghost.lastData s.lines.d s.lines.rs⟩] } := by
  simp only [State.checkWragain, State.wragainOk, beq_iff_eq]
  split <;> rfl

theorem wrmultiOk_iff (s : State) (n : Word) (v : Half) :
    s.wrmultiOk n v = true ↔ n = 0 ∨ (s.lines.d = some v ∧ s.lines.rs = some .high) := by
  simp [State.wrmultiOk]

/-- The `WRMULTI` test changes the fault record at most. -/
theorem checkWrmulti_eq (s : State) (n : Word) (v : Half) :
    s.checkWrmulti n v = { s with
      faults := if n = 0 ∨ (s.lines.d = some v ∧ s.lines.rs = some .high) then s.faults
        else s.faults ++ [⟨s.reqIndex, .contractWrmulti n v s.lines.d s.lines.rs⟩] } := by
  by_cases h : n = 0 ∨ (s.lines.d = some v ∧ s.lines.rs = some .high)
  · rw [if_pos h, State.checkWrmulti, if_pos ((wrmultiOk_iff s n v).mpr h)]
  · rw [if_neg h, State.checkWrmulti, if_neg (fun hk => h ((wrmultiOk_iff s n v).mp hk))]; rfl

theorem rawxferOk_iff (s : State) (b n : Word) :
    s.rawxferOk b n = true ↔ n = 0 ∨ bufferOK s.cfg s.mem b n = true := by
  simp [State.rawxferOk]

/-! ## The engine's arithmetic (R163, R165, R166, R172) -/

theorem atLeastBatch_some (e : Eng) {r : Word} (h : e.rem = some r) :
    e.atLeastBatch = decide (40 ≤ r.toNat) := by
  simp only [Eng.atLeastBatch, h]; rfl

@[simp] theorem below39_some (n : BitVec 6) : below39 (some n) = decide (n.toNat < 39) := rfl

theorem takeBatch_toNat {r : Word} (h : 40 ≤ r.toNat) : (r - 40#32).toNat = r.toNat - 40 := by
  rw [BitVec.toNat_sub, show (40#32 : Word).toNat = 40 from rfl]; omega

theorem tailEntry_toNat {r : Word} (h : r.toNat ≤ 39) : (tailEntry r).toNat = 39 - r.toNat := by
  simp only [tailEntry, Config.tail, BitVec.toNat_setWidth, BitVec.toNat_sub,
    show (BitVec.ofNat 32 39).toNat = 39 from rfl]
  omega

/-! ## The port (R70, R76 to R78) -/

theorem nextRequest_busy {s : State} {i : Instr} {m : MicroStep} (h : s.seq = .busy i m) :
    s.nextRequest = (some i, s) := by
  simp [State.nextRequest, h]

theorem nextRequest_idle {s : State} (h : s.seq = .idle) :
    s.nextRequest =
      match decodeFront s.port with
      | none => (none, s)
      | some (.request i, rest) => (some i, s.withPort rest)
      | some (.illegalOpcode w, rest) => (none, (s.withPort rest).rejectRequest (.illegalOpcode w))
      | some (.illegalReserved w, rest) =>
        (none, (s.withPort rest).rejectRequest (.illegalReserved w))
      | some (.incomplete w, rest) =>
        (none, (s.withPort rest).rejectRequest (.incompleteRequest w)) := by
  simp only [State.nextRequest, h] <;> rfl

/-- One more step at the end of a run, or at its front. -/
theorem run_zero (s : State) : run 0 s = .next s := rfl

theorem run_succ (k : Nat) (s : State) :
    run (k + 1) s =
      match step s with
      | .next t => run k t
      | .fault r => .fault r
      | .refused r => .refused r := rfl

/-- `run` is the host's run of the model. -/
theorem run_eq_core (k : Nat) (s : State) : Host.Core.run Sys2Proof.core k s = run k s := by
  induction k generalizing s with
  | zero => rfl
  | succ k ih =>
    have h : Sys2Proof.core.step s = step s := rfl
    cases hs : step s with
    | next t => simp only [Host.Core.run, h, hs, run]; exact ih t
    | fault r => simp only [Host.Core.run, h, hs, run]; rfl
    | refused r => simp only [Host.Core.run, h, hs, run]; rfl

theorem run_add (j k : Nat) (s : State) :
    run (j + k) s =
      match run j s with
      | .next t => run k t
      | .fault r => .fault r
      | .refused r => .refused r := by
  induction j generalizing s with
  | zero => simp [run_zero]
  | succ j ih =>
    rw [Nat.succ_add, run_succ, run_succ]
    split <;> simp_all

end Sys2Proof.Machine
end

