-- ==== Sys2Proof/Laws/Observe.lean ====
section
/-! SUPPORT. An observation of a known value is that value, of an unknown one the draw (R11); and an observation
tells codes, positions and the trace as the state has them. -/

namespace Sys2Proof.Machine

variable (r k : Nat)

@[simp] theorem observedData_some (look : Look) (v : Half) : observedData r look (some v) = v := rfl
@[simp] theorem observedData_none (look : Look) :
    observedData r look none = Config.dataDraw r look := rfl
@[simp] theorem observedLevel_some (look : Look) (line : ControlLine) (l : Level) :
    observedLevel r look line (some l) = l := rfl
@[simp] theorem observedLevel_none (look : Look) (line : ControlLine) :
    observedLevel r look line none = Config.levelDraw r look line := rfl

theorem seenLines_of_outputs {s : State} (h : s.dir = ⟨true, true⟩) : s.seenLines = s.lines := by
  simp [State.seenLines, h]

theorem seen_of_outputs {s : State} (h : s.dir = ⟨true, true⟩) : s.seen r k = s.lines.observed r k := by
  rw [State.seen, seenLines_of_outputs h]

@[simp] theorem code_observed (i : FaultInfo) : (i.observed r k).code = i.code := by cases i <;> rfl

@[simp] theorem reqIndex_observed (f : FaultRecord) : (f.observed r k).reqIndex = f.reqIndex := rfl

@[simp] theorem observation_trace (s : State) : (s.observation r k).trace = s.trace := rfl

@[simp] theorem observation_faults_length (s : State) :
    (s.observation r k).faults.length = s.faults.length := by simp [State.observation]

@[simp] theorem observation_captures_length (s : State) :
    (s.observation r k).captures.length = (s.captures r).length := by simp [State.observation]

end Sys2Proof.Machine
end

