-- ==== Sys2Proof/Laws/Words.lean ====
section
/-! SUPPORT. The fields of the words the encoder writes are what it was given (R71, R72, R74), and the
decoder leaves fewer words than it found. -/

namespace Sys2Proof

theorem getLsbD_headerWord (op : BitVec 4) (imm : Half) (i : Nat) :
    (headerWord op imm).getLsbD i =
      if i < 16 then imm.getLsbD i else if i < 28 then false else op.getLsbD (i - 28) := by
  have h : (headerWord op imm).getLsbD i =
      (op ++ (0#12 ++ imm) : BitVec (4 + (12 + 16))).getLsbD i := rfl
  rw [h, BitVec.getLsbD_append, BitVec.getLsbD_append]
  split
  · simp
  · split <;> simp <;> omega

@[simp] theorem opcodeOf_headerWord (op : BitVec 4) (imm : Half) :
    opcodeOf (headerWord op imm) = op := by
  ext i hi
  simp [opcodeOf, getLsbD_headerWord, show ¬ (28 + i < 16) by omega, BitVec.getLsbD_eq_getElem hi]

@[simp] theorem reservedOf_headerWord (op : BitVec 4) (imm : Half) :
    reservedOf (headerWord op imm) = 0#12 := by
  ext i hi
  simp [reservedOf, getLsbD_headerWord]
  omega

@[simp] theorem imm16Of_headerWord (op : BitVec 4) (imm : Half) :
    imm16Of (headerWord op imm) = imm := by
  ext i hi
  simp [imm16Of, getLsbD_headerWord, hi]

theorem getLsbD_paramWord (p : Half) (i : Nat) :
    (0#16 ++ p : Word).getLsbD i = (decide (i < 16) && p.getLsbD i) := by
  have h : (0#16 ++ p : Word).getLsbD i = (0#16 ++ p : BitVec (16 + 16)).getLsbD i := rfl
  rw [h, BitVec.getLsbD_append]
  split <;> simp_all

@[simp] theorem param16Of_paramWord (p : Half) : param16Of (0#16 ++ p) = p := by
  ext i hi
  simp [param16Of, getLsbD_paramWord, hi]

@[simp] theorem paramReservedOf_paramWord (p : Half) : paramReservedOf (0#16 ++ p) = 0#16 := by
  ext i hi
  simp [paramReservedOf, getLsbD_paramWord]

/-- Every item takes at least one word, so a stream is read in at most as many items as it has words (R80). -/
theorem decodeFront_rest_lt {ws rest : List Word} {x : Item}
    (h : decodeFront ws = some (x, rest)) : rest.length < ws.length := by
  cases ws with
  | nil => simp [decodeFront] at h
  | cons w ws =>
    simp only [decodeFront, checkedItem, Option.some.injEq] at h
    repeat' split at h
    all_goals
      simp only [Prod.mk.injEq] at h
      obtain ⟨-, rfl⟩ := h
      simp +arith

end Sys2Proof
end

