-- ==== Sys2Proof/Laws/PerInstr.lean ====
section
/-! SUPPORT. A property of every request as syntax, one lemma per constructor: its words begin with a header
whose opcode is defined, whose reserved field is 0, and whose opcode alone tells how many words there are
(spec/30_encoding.md R71, R73, R75). -/

namespace Sys2Proof.Laws.Header

/-- The words of `i` are a header and the extension words its opcode asks for. -/
def Statement (i : Instr) : Prop :=
  ∃ h ext, encode i = h :: ext ∧ (encode i).length = requestLength (opcodeOf h) ∧
    reservedOf h = 0 ∧ 1 ≤ (opcodeOf h).toNat ∧ (opcodeOf h).toNat ≤ 7

theorem wrcmd (cmd : Half) : Statement (.wrcmd cmd) :=
  ⟨_, _, rfl, by rw [opcodeOf_headerWord]; rfl, reservedOf_headerWord .., by
    rw [opcodeOf_headerWord]; decide⟩

theorem wrdata (value : Half) : Statement (.wrdata value) :=
  ⟨_, _, rfl, by rw [opcodeOf_headerWord]; rfl, reservedOf_headerWord .., by
    rw [opcodeOf_headerWord]; decide⟩

theorem wrcmdp (cmd param : Half) : Statement (.wrcmdp cmd param) :=
  ⟨_, _, rfl, by rw [opcodeOf_headerWord]; rfl, reservedOf_headerWord .., by
    rw [opcodeOf_headerWord]; decide⟩

theorem wragain (value : Half) : Statement (.wragain value) :=
  ⟨_, _, rfl, by rw [opcodeOf_headerWord]; rfl, reservedOf_headerWord .., by
    rw [opcodeOf_headerWord]; decide⟩

theorem wrmulti (count : Word) (value : Half) : Statement (.wrmulti count value) :=
  ⟨_, _, rfl, by rw [opcodeOf_headerWord]; rfl, reservedOf_headerWord .., by
    rw [opcodeOf_headerWord]; decide⟩

theorem rawxfer (buffer numWords : Word) : Statement (.rawxfer buffer numWords) :=
  ⟨_, _, rfl, by rw [opcodeOf_headerWord]; rfl, reservedOf_headerWord .., by
    rw [opcodeOf_headerWord]; decide⟩

theorem reset : Statement .reset :=
  ⟨_, _, rfl, by rw [opcodeOf_headerWord]; rfl, reservedOf_headerWord .., by
    rw [opcodeOf_headerWord]; decide⟩

end Sys2Proof.Laws.Header
end

