-- ==== Sys2Proof/Tests/Slice0.lean ====
section
/-! SUPPORT. Tests of the model's own: words written out from spec/30_encoding.md, the vectors of
spec/95_test_vectors.md taken one step at a time, an ill-formed term for each check, and for every statement
with hypotheses a state and operands that meet them all. Expected results come from the spec. -/

namespace Sys2Proof.Tests
open Sys2Proof Sys2Proof.Machine

/-! ## Ill-formed terms (R101: V-B2 to V-B6; R81, R82) -/

theorem test_valid_B0 : Config.bootContext.valid = true := by decide
/-- V-B2: two bits in a mask. -/
theorem test_invalid_two_bits :
    { Config.bootContext with writeStrobeMask := 0x0003 }.valid = false := by decide
/-- V-B6: no bit in a mask. -/
theorem test_invalid_no_bit :
    { Config.bootContext with writeStrobeMask := 0x0000 }.valid = false := by decide
theorem test_invalid_rs_two_bits :
    { Config.bootContext with registerSelectMask := 0x0011 }.valid = false := by decide
theorem test_invalid_rst_no_bit :
    { Config.bootContext with resetMask := 0x0000 }.valid = false := by decide
/-- V-B3: RS equals WR. -/
theorem test_invalid_equal_wr_rs :
    { Config.bootContext with registerSelectMask := 0x0002 }.valid = false := by decide
theorem test_invalid_equal_wr_rst :
    { Config.bootContext with resetMask := 0x0002 }.valid = false := by decide
theorem test_invalid_equal_rs_rst :
    { Config.bootContext with resetMask := 0x0001 }.valid = false := by decide
/-- V-B4: the data port is the control port. -/
theorem test_invalid_same_port :
    { Config.bootContext with dataPort := 1 }.valid = false := by decide
/-- V-B5: an odd register address. -/
theorem test_invalid_odd_set :
    { Config.bootContext with controlSetAddress := 0x10000101 }.valid = false := by decide
theorem test_invalid_odd_reset :
    { Config.bootContext with controlResetAddress := 0x10000105 }.valid = false := by decide
theorem test_invalid_odd_data :
    { Config.bootContext with dataOutputAddress := 0x10000001 }.valid = false := by decide
theorem test_invalid_data_is_set :
    { Config.bootContext with dataOutputAddress := 0x10000100 }.valid = false := by decide
theorem test_invalid_data_is_reset :
    { Config.bootContext with dataOutputAddress := 0x10000104 }.valid = false := by decide
theorem test_invalid_set_is_reset :
    { Config.bootContext with controlResetAddress := 0x10000100 }.valid = false := by decide

theorem test_fits16 : fits16 0xFFFF = true ∧ fits16 0x10000 = false := by decide
theorem test_fits32 : fits32 0xFFFFFFFF = true ∧ fits32 0x100000000 = false := by decide
theorem test_fitsFill : fitsFill 0x100000000 = true ∧ fitsFill 0x100000001 = false := by decide
theorem test_asm_ill_formed :
    (AsmLine.wrcmd 0x10000).assemble = none ∧ (AsmLine.wrdata 0x10000).assemble = none ∧
    (AsmLine.wrcmdp 0 0x10000).assemble = none ∧ (AsmLine.wragain 0x10000).assemble = none ∧
    (AsmLine.wrmulti 0x100000000 0).assemble = none ∧
    (AsmLine.rawxfer 0 0x100000000).assemble = none ∧ (AsmLine.word 0x100000000).assemble = none ∧
    (AsmLine.fill 0x100000001 0).assemble = none ∧
    (AsmLine.wrcmds 0 [0, 0x10000]).assemble = none := by decide

/-! ## Words, bit by bit from R71, R72 (V-E1 to V-E16) -/

theorem test_decode_wrcmd : decodeFront [0b0001_000000000000_0000000000101100] =
    some (.request (.wrcmd 0x002C), []) := by decide
theorem test_decode_wrdata : decodeFront [0b0010_000000000000_1111100000000000] =
    some (.request (.wrdata 0xF800), []) := by decide
theorem test_decode_wrcmdp : decodeFront
    [0b0011_000000000000_0000000000110110, 0b0000000000000000_0000000001001000] =
    some (.request (.wrcmdp 0x0036 0x0048), []) := by decide
theorem test_decode_wragain : decodeFront [0b0100_000000000000_1111100000000000] =
    some (.request (.wragain 0xF800), []) := by decide
theorem test_decode_wrmulti : decodeFront
    [0b0101_000000000000_0000000000011111, 0b00000000000000000000000001010001] =
    some (.request (.wrmulti 81 0x001F), []) := by decide
theorem test_decode_rawxfer : decodeFront
    [0b0110_000000000000_0000000000000000, 0x20000100, 5] =
    some (.request (.rawxfer 0x20000100 5), []) := by decide
theorem test_decode_reset : decodeFront [0b0111_000000000000_0000000000000000] =
    some (.request .reset, []) := by decide
/-- V-E8, V-E9, V-F1. -/
theorem test_decode_illegal_opcode :
    decodeFront [0x00000000] = some (.illegalOpcode 0, []) ∧
    decodeFront [0xF000FFFF] = some (.illegalOpcode 0xF000FFFF, []) ∧
    decodeFront [0x9FFF0000] = some (.illegalOpcode 0x9FFF0000, []) := by decide
/-- V-E10 to V-E13. -/
theorem test_decode_illegal_reserved :
    decodeFront [0x10010000] = some (.illegalReserved 0x10010000, []) ∧
    decodeFront [0x70000001] = some (.illegalReserved 0x70000001, []) ∧
    decodeFront [0x60000001, 0x20000100, 1, 7] = some (.illegalReserved 0x60000001, [7]) ∧
    decodeFront [0x30000036, 0x00010048, 7] = some (.illegalReserved 0x30000036, [7]) := by decide
/-- V-E14, V-F3. -/
theorem test_decode_incomplete :
    decodeFront [0x5000001F] = some (.incomplete 0x5000001F, []) ∧
    decodeFront [0x60010000] = some (.incomplete 0x60010000, []) := by decide
/-- V-E15, V-E16. -/
theorem test_decode_stream :
    decodeStream [0x5000FFFF, 0xFFFFFFFF, 0x8000002C, 0x1000002C] =
      [.request (.wrmulti 4294967295 0xFFFF), .illegalOpcode 0x8000002C,
        .request (.wrcmd 0x002C)] := by decide
theorem test_encode_R83 :
    encode (.wrmulti 81 0x1F) = [0x5000001F, 0x00000051] ∧
    encode (.rawxfer 0x20000100 5) = [0x60000000, 0x20000100, 0x00000005] ∧
    encode (.wrcmdp 0x36 0x48) = [0x30000036, 0x00000048] := by decide
theorem test_table_rows :
    decodeTableWord 32 0x10000000 = some (.wrcmd 0) ∧
    decodeTableWord 32 0x30000000 = some (.wrcmdp 0 0) ∧
    decodeTableWord 64 0x0000004830000036 = some (.wrcmdp 0x36 0x48) ∧
    decodeTableWord 32 0x60000000 = some (.rawxfer 0 0) ∧
    decodeTableWord 32 0x10010000 = none := by decide
/-- The opening of program P1: `fill 100, 0xF800`. -/
theorem test_asm_fill :
    (AsmLine.fill 100 0xF800).assemble = some [0x2000F800, 0x5000F800, 0x63] := by decide

/-- R82's `wrcmds`, R83's `wrcmdp`, and `.word`, from their characters. -/
theorem test_asm_text :
    assembleText ['w','r','c','m','d','p',' ','0','x','3','6',',',' ','0','x','4','8','\n',
      'w','r','c','m','d','s',' ','4','2',',','0','\n','.','w','o','r','d',' ','0','x','8','F'] =
      some [0x30000036, 0x48, 0x1000002A, 0x20000000, 0x8F] := by decide
theorem test_asm_text_errors :
    parseLine ['w','r','c','m','d'] = none ∧ parseLine ['r','e','s','e','t',' ','1'] = none ∧
    parseLine ['w','r','c','m','d',' ','0','x','G'] = none ∧
    assembleText ['w','r','c','m','d',' ','6','5','5','3','6'] = none := by decide

/-! ## One step -/

/-- The block after construction with `B0`, the given words presented and nothing in memory. -/
def presented (ws : List Word) : State := { State.reset with port := ws }

/-- The block after construction, at the given micro-step of a request, with the given lines. -/
def atStep (i : Instr) (m : MicroStep) (l : Lines) : State :=
  { State.reset with seq := .busy i m, lines := l }

/-- Whether an outcome is a next state of which a check holds. -/
def nextWith (o : Host.Outcome State Fault Refusal) (p : State → Bool) : Bool :=
  match o with
  | .next t => p t
  | _ => false

/-- V-S1, first event. -/
theorem test_wrcmd_latch : nextWith (step (presented [0x1000002C])) (fun t =>
    t.lines.d == some 0x002C && t.port == [] && t.trace == State.reset.trace ++ [.dw 0x002C]
      && t.seq == .busy (.wrcmd 0x2C) (.tx .command .select)) = true := by decide
theorem test_wrcmd_select : nextWith
    (exec (.wrcmd 0x2C)
      (atStep (.wrcmd 0x2C) (.tx .command .select) ⟨some 0x2C, some .high, some .high, none⟩))
    (fun t => t.lines == ⟨some 0x2C, some .high, some .low, none⟩) = true := by decide
/-- V-S2, last event. -/
theorem test_wrdata_strobeHigh : nextWith
    (exec (.wrdata 0xF800) (atStep (.wrdata 0xF800) (.tx .data .strobeHigh)
      ⟨some 0xF800, some .low, some .high, none⟩))
    (fun t => t.lines == ⟨some 0xF800, some .high, some .high, none⟩ && t.seq == .idle
      && t.ghost.lastData == some 0xF800 && t.reqIndex == 1) = true := by decide
theorem test_wrdata_select : nextWith
    (exec (.wrdata 1) (atStep (.wrdata 1) (.tx .data .select) ⟨some 1, some .high, none, none⟩))
    (fun t => t.trace == State.reset.trace ++ [.cs 0x0001]) = true := by decide
/-- V-S6: the parameter follows the command. -/
theorem test_wrcmdp_halves : nextWith
    (exec (.wrcmdp 0x36 0x48) (atStep (.wrcmdp 0x36 0x48) (.tx .command .strobeHigh)
      ⟨some 0x36, some .low, some .low, none⟩))
    (fun t => t.seq == .busy (.wrcmdp 0x36 0x48) (.tx .data .latch)) = true := by decide
theorem test_wrcmdp_param : nextWith
    (exec (.wrcmdp 0x36 0x48) (atStep (.wrcmdp 0x36 0x48) (.tx .data .latch)
      ⟨some 0x36, some .high, some .low, none⟩))
    (fun t => t.lines.d == some 0x48) = true := by decide
/-- V-S10: the contract is violated after construction. -/
theorem test_wragain_fault : nextWith (step (presented [0x4000F800])) (fun t =>
    t.faults == [⟨0, .contractWragain 0xF800 none none none⟩] && t.trace == State.reset.trace)
      = true := by decide
/-- V-S8: the contract is met after `WRDATA(0xF800)`. -/
theorem test_wragain_ok : nextWith
    (exec (.wragain 0xF800) { State.reset with
      ghost := ⟨some 0xF800⟩, lines := ⟨some 0xF800, some .high, some .high, none⟩ })
    (fun t => t.faults == []) = true := by decide
/-- V-M4. -/
theorem test_wrmulti_fault : nextWith (step (presented [0x50001234, 1])) (fun t =>
    t.faults == [⟨0, .contractWrmulti 1 0x1234 none none⟩] && t.eng.rem == some 1) = true := by
  decide
/-- V-M1, `count = 41` after its batch: `eng.rem` 1, then `entry` 38. -/
theorem test_wrmulti_dispatch : nextWith
    (exec (.wrmulti 41 5) { atStep (.wrmulti 41 5) .dispatch ⟨some 5, some .high, some .high, none⟩
      with eng := ⟨some 1, some 40, none, none⟩ })
    (fun t => t.eng.entry == some 38 && t.seq == .busy (.wrmulti 41 5) .tailLow) = true := by decide
/-- V-X4: misaligned. -/
theorem test_rawxfer_misaligned : nextWith (step (presented [0x60000000, 0x20000101, 2]))
    (fun t => t.faults == [⟨0, .contractBuffer 0x20000101 2⟩] && t.seq == .idle
      && t.trace == State.reset.trace) = true := by decide
/-- V-X1, an element of `M1`, low byte first. -/
theorem test_rawxfer_read : nextWith
    (exec (.rawxfer 0x20000106 1) { atStep (.rawxfer 0x20000106 1) .read State.reset.lines with
      raw := ⟨some 0, none⟩, mem := Memory.admit16 0x20000106 0xABCD [] })
    (fun t => t.raw.word == some 0xABCD && t.trace ==
      State.reset.trace ++ [.read 0x20000106 0xABCD]) = true := by decide
/-- V-X3, V-X6, V-X7: no check for no words; a range that wraps; a GPIO register. -/
theorem test_bufferOK :
    State.reset.rawxferOk 0x00000001 0 = true ∧ State.reset.rawxferOk 0xFFFFFFFE 2 = false ∧
    bufferOK Config.bootContext (Memory.admit16 0x10000000 7 []) 0x10000000 1 = false ∧
    bufferOK Config.bootContext (Memory.admit16 0x20000000 7 []) 0x20000000 1 = true := by decide
/-- V-R1. -/
theorem test_reset_first : nextWith (step (presented [0x70000000])) (fun t =>
    t.trace == State.reset.trace ++ [.delay 10] && t.lines == State.reset.lines) = true := by decide
theorem test_reset_assert : nextWith
    (exec .reset (atStep .reset .rstAssert ⟨some 0x1234, some .high, some .high, some .high⟩))
    (fun t => t.lines == ⟨some 0x1234, some .high, some .high, some .low⟩) = true := by decide
/-- The reset state runs the first row of the table that the host asks for. -/
theorem test_fetch_word : nextWith (step (State.reset.withFetchWord 32 0x20000000)) (fun t =>
    t.seq == .busy (.wrdata 0) (.tx .data .select)) = true := by decide
/-- V-B7, V-B2: construction refuses. -/
theorem test_construct_refuses :
    (construct { Config.bootPins with familyRecognised := false } .split [] [] matches
      .error .unsupportedFamily) = true ∧
    (construct { Config.bootPins with rsBit := 1 } .split [] [] matches .error .invalidPins) = true
      := by decide
/-- V-R1: the captures after construction, whatever the draw, are at most one unknown capture (V-B8). -/
theorem test_spurious_capture (draw : Nat → Bool) :
    capturesFrom draw State.reset.cfg 0 Lines.unknown State.reset.trace =
      if draw 2 then [⟨none, none⟩] else [] := by
  cases h : draw 2 <;>
    simp [State.reset, capturesFrom, risingEdge, Config.bootContext, Lines.after, Lines.unknown, h]

/-- R223: RST after construction is unknown, each look at it a draw. After a `RESET` it is high. WR is known. -/
theorem test_observe_rst (r k : Nat) :
    (State.reset.observation r k).lines.rst = Config.levelDraw r (.lines k) .rst ∧
    (State.reset.seen r k).rst = Config.levelDraw r (.lines k) .rst ∧
    (State.reset.observation r k).lines.wr = .high ∧
    ({ State.reset with lines := ⟨none, some .high, none, some .high⟩ }.observation r k).lines.rst =
      .high := ⟨rfl, rfl, rfl, rfl⟩

/-! ## Witnesses: a state and operands meeting the hypotheses of each statement -/

/-- Memory with the elements `0x00FF, 0xABCD` at `0x20000100`. -/
def twoElements : Memory := Memory.admit16 0x20000102 0xABCD (Memory.admit16 0x20000100 0x00FF [])

/-- After construction, with words and memory of the host's. -/
def start (ws : List Word) (m : Memory) : State := { State.reset with port := ws, mem := m }

theorem start_inv (ws : List Word) (m : Memory) (hm : m.wf = true) : (start ws m).Inv := by
  refine ⟨test_valid_B0, hm, rfl, ?_, ?_, ?_, ?_⟩
  · simp [start, State.reset, Lines.after, Lines.driveHigh, Lines.unknown, Config.bootContext]
  · simp [start, CleanTrace, Event.clean, Event.oneLine, isLineMask, State.reset, Config.bootContext,
      Lines.after, Lines.unknown]
  · simp [start, State.SeqOk, State.reset, State.GhostOk]
  · simp [start, State.FaultsOk, State.reset]

/-- After construction and `WRDATA(5)`. -/
def latched5 (m : Memory) : State :=
  { start [] m with
    lines := ⟨some 5, some .high, some .high, none⟩
    ghost := ⟨some 5⟩
    trace := State.reset.trace ++ [.dw 5, .cs 0x0001, .cr 0x0002, .cs 0x0002]
    reqIndex := 1 }

theorem latched5_inv (m : Memory) (hm : m.wf = true) : (latched5 m).Inv := by
  refine ⟨test_valid_B0, hm, rfl, ?_, ?_, ?_, ?_⟩
  · simp [latched5, start, State.reset, Lines.after, Lines.driveHigh, Lines.driveLow, Lines.unknown,
      Config.bootContext]
  · simp [latched5, start, CleanTrace, Event.clean, Event.oneLine, isLineMask, State.reset,
      Config.bootContext, Lines.after, Lines.driveHigh, Lines.driveLow, Lines.unknown]
  · simp [latched5, start, State.SeqOk, State.reset, State.GhostOk]
  · simp [latched5, start, State.FaultsOk, State.reset]

/-- After construction and `WRCMD(0x002C)`. -/
def commanded : State :=
  { start [] [] with
    lines := ⟨some 0x2C, some .high, some .low, none⟩
    trace := State.reset.trace ++ [.dw 0x2C, .cr 0x0001, .cr 0x0002, .cs 0x0002]
    reqIndex := 1 }

theorem commanded_inv : commanded.Inv := by
  refine ⟨test_valid_B0, rfl, rfl, ?_, ?_, ?_, ?_⟩
  · simp [commanded, start, State.reset, Lines.after, Lines.driveHigh, Lines.driveLow, Lines.unknown,
      Config.bootContext]
  · simp [commanded, start, CleanTrace, Event.clean, Event.oneLine, isLineMask, State.reset,
      Config.bootContext, Lines.after, Lines.driveHigh, Lines.driveLow, Lines.unknown]
  · simp [commanded, start, State.SeqOk, State.reset, State.GhostOk]
  · simp [commanded, start, State.FaultsOk, State.reset]

/-- After construction and three steps of `WRDATA(5)`: the strobe is low. -/
def strobing5 : State :=
  { latched5 [] with
    lines := ⟨some 5, some .low, some .high, none⟩
    seq := .busy (.wrdata 5) (.tx .data .strobeHigh)
    ghost := ⟨none⟩
    trace := State.reset.trace ++ [.dw 5, .cs 0x0001, .cr 0x0002]
    reqIndex := 0 }

theorem strobing5_inv : strobing5.Inv := by
  refine ⟨by decide, rfl, rfl, ?_, ?_, ?_, ?_⟩
  · simp [strobing5, latched5, start, State.reset, Lines.after, Lines.driveHigh, Lines.driveLow,
      Lines.unknown, Config.bootContext]
  · simp [strobing5, latched5, start, CleanTrace, Event.clean, Event.oneLine, isLineMask, State.reset,
      Config.bootContext, Lines.after, Lines.driveHigh, Lines.unknown]
  · simp [strobing5, latched5, start, State.SeqOk, State.StepOk, MicroStep.raisesStrobe, State.reset,
      TxOk, BusMode.level]
  · simp [strobing5, latched5, start, State.FaultsOk, State.reset]

/-- After construction and the CHECK of `RAWXFER(0x20000100, 2)`. -/
def reading : State :=
  { start [] twoElements with
    seq := .busy (.rawxfer 0x20000100 2) .read
    raw := ⟨some 0, none⟩ }

theorem reading_inv : reading.Inv := by
  refine ⟨by decide, by decide, rfl, ?_, ?_, ⟨rfl, rfl, by simp, by decide, 0, rfl, by decide⟩, ?_⟩
  · simp [reading, start, State.reset, Lines.after, Lines.driveHigh, Lines.unknown,
      Config.bootContext]
  · simp [reading, start, CleanTrace, Event.clean, Event.oneLine, isLineMask, State.reset,
      Config.bootContext, Lines.after, Lines.unknown]
  · simp [reading, start, State.FaultsOk, State.reset]

theorem witness_OneEncodingPerRequest_StreamDecodesItemByItem :
    decodeFront [0x1000002C, 7] = some (.request (.wrcmd 0x2C), [7]) := by decide
theorem witness_ReservedOpcodeRejected :
    State.reset.seq = .idle ∧
    ((0x0FFFFFFF : Word).extractLsb' 28 4).toNat = 0 ∧
    8 ≤ ((0x80000000 : Word).extractLsb' 28 4).toNat ∧
    8 ≤ ((0xFFFFFFFF : Word).extractLsb' 28 4).toNat := by decide
theorem witness_ReservedBitsRejected_rsv :
    1 ≤ ((0x10010000 : Word).extractLsb' 28 4).toNat ∧
    ((0x10010000 : Word).extractLsb' 28 4).toNat ≤ 7 ∧
    ([] : List Word).length + 1 = requestLength ((0x10010000 : Word).extractLsb' 28 4) ∧
    (0x10010000 : Word).extractLsb' 16 12 ≠ 0#12 := by decide
theorem witness_ReservedBitsRejected_imm :
    (0x70000001 : Word).extractLsb' 28 4 = 7#4 ∧ (0x70000001 : Word).extractLsb' 0 16 ≠ 0#16 ∧
    (0x60008000 : Word).extractLsb' 28 4 = 6#4 ∧ (0x60008000 : Word).extractLsb' 0 16 ≠ 0#16 ∧
    [0#32, 1#32].length + 1 = requestLength ((0x60008000 : Word).extractLsb' 28 4) := by decide
theorem witness_ReservedBitsRejected_ext :
    (0x30000036 : Word).extractLsb' 28 4 = 3#4 ∧
    (∃ e ∈ [0x00010048#32], e.extractLsb' 16 16 ≠ 0#16) ∧
    [0x00010048#32].length + 1 = requestLength ((0x30000036 : Word).extractLsb' 28 4) :=
  ⟨by decide, ⟨_, List.mem_singleton.2 rfl, by decide⟩, by decide⟩
theorem witness_IncompleteRejected : ∀ ws ∈ [[0x5000001F#32], [0x60010000#32, 1#32],
    [0x3FFF0000#32]],
    ∃ h ext, ws = h :: ext ∧ (presented ws).seq = .idle ∧ 1 ≤ (h.extractLsb' 28 4).toNat ∧
    (h.extractLsb' 28 4).toNat ≤ 7 ∧ ext.length + 1 < requestLength (h.extractLsb' 28 4) := by
  intro ws h
  simp only [List.mem_cons, List.not_mem_nil, or_false] at h
  rcases h with rfl | rfl | rfl <;> exact ⟨_, _, rfl, rfl, by decide⟩
theorem witness_StepRunsTheRequest :
    (presented [0x70000000]).seq = .idle ∧
    decodeFront (presented [0x70000000]).port = some (.request .reset, []) ∧
    (atStep .reset .rstHigh State.reset.lines).seq = .busy .reset .rstHigh := by decide
theorem witness_EmptyPortWaits : State.reset.seq = .idle ∧ State.reset.port = [] := by decide
theorem witness_InterleavingHasNoMove :
    (atStep .reset .rstHigh State.reset.lines).seq = .busy .reset .rstHigh ∧
    Instr.reset ≠ .wrcmd 0 := by decide
theorem witness_a_step_that_emits : ∃ t, step (presented [0x1000002C]) = .next t ∧
    t.trace = (presented [0x1000002C]).trace ++ [.dw 0x2C] := ⟨_, rfl, rfl⟩
theorem witness_OneLinePerControlWrite : ∃ t, step strobing5 = .next t ∧
    t.trace = strobing5.trace ++ [.cs 0x0002] := ⟨_, rfl, rfl⟩

/-- The rows of every request's table can be reached: a valid binding with the sequencer at the row. -/
theorem witness_steps_rows (i : Instr) (m : MicroStep) :
    (atStep i m State.reset.lines).cfg.valid = true ∧ (atStep i m State.reset.lines).AtStep i m :=
  ⟨test_valid_B0, .inl rfl⟩
theorem witness_steps_first (i : Instr) : State.reset.AtStep i (firstStep i) := .inr ⟨rfl, rfl⟩
/-- The engine rows with their registers, at the ends of their ranges. -/
theorem witness_WrmultiSteps (r : Word) (k j : BitVec 6) :
    { State.reset with eng := ⟨some r, some k, none, some j⟩ }.eng.rem = some r ∧
    { State.reset with eng := ⟨some r, some k, none, some j⟩ }.eng.k = some k ∧
    { State.reset with eng := ⟨some r, some k, none, some j⟩ }.eng.j = some j ∧
    (39#32).toNat ≤ 39 ∧ (38#6).toNat ≤ 38 := ⟨rfl, rfl, rfl, by decide, by decide⟩
theorem witness_RawxferSteps :
    reading.raw.i = some 0 ∧ reading.mem.read16 (0x20000100 + 2 * (0 : Word)).toNat = some 0x00FF ∧
    bufferOK reading.cfg reading.mem 0x20000100 2 = true ∧
    bufferOK reading.cfg reading.mem 0x20000101 2 = false := by decide
theorem witness_RawxferSteps_word :
    ({ reading with raw := ⟨some 1, some 0xABCD⟩ }).raw.word = some 0xABCD := rfl

/-- The ready state of the whole-request statements. -/
theorem witness_Ready : State.reset.Ready := ⟨test_valid_B0, rfl, rfl⟩
theorem witness_RawxferWhole :
    (start [] twoElements).Ready ∧ (2 : Word) ≠ 0 ∧
    bufferOK (start [] twoElements).cfg twoElements 0x20000100 2 = true ∧
    [0x00FF#16, 0xABCD#16].length = (2 : Word).toNat ∧
    (∀ i < (2 : Word).toNat,
      twoElements.read16 ((0x20000100 : Word).toNat + 2 * i) = [0x00FF#16, 0xABCD#16][i]?) :=
  ⟨⟨test_valid_B0, rfl, rfl⟩, by decide, by decide, rfl, by decide⟩
theorem witness_RawxferWhole_bad : (3 : Word) ≠ 0 ∧
    bufferOK (start [] twoElements).cfg twoElements 0x20000100 3 = false := by decide

/-- `exec` answers a next state for every request accepted after construction (the frames). -/
theorem witness_frames : ∀ i ∈ [Instr.wrcmd 1, .wrdata 1, .wrcmdp 1 2, .wragain 1, .wrmulti 3 1,
    .rawxfer 0x20000100 2, .reset], ∃ t, exec i State.reset = .next t := by
  intro i h
  simp only [List.mem_cons, List.not_mem_nil, or_false] at h
  rcases h with rfl | rfl | rfl | rfl | rfl | rfl | rfl <;> exact ⟨_, rfl⟩

theorem witness_OnlyItsAddresses_write : strobing5.Inv ∧
    (∃ t, step strobing5 = .next t ∧ t.trace = strobing5.trace ++ [.cs 0x0002]) ∧
    Event.access strobing5.cfg (.cs 0x0002) = some (.write16 0x10000100 0x0002) :=
  ⟨strobing5_inv, ⟨_, rfl, rfl⟩, rfl⟩
theorem witness_OnlyItsAddresses_read : reading.Inv ∧
    (∃ t, step reading = .next t ∧ t.trace = reading.trace ++ [.read 0x20000100 0x00FF]) ∧
    Event.access reading.cfg (.read 0x20000100 0x00FF) = some (.read16 0x20000100 0x00FF) :=
  ⟨reading_inv, ⟨_, rfl, rfl⟩, rfl⟩
theorem witness_ElementBytes : twoElements.readByte 0x20000102 = some 0xCD ∧
    twoElements.readByte (0x20000102 + 1) = some 0xAB ∧
    twoElements.readByte 0x20000104 = none := by decide
theorem witness_BufferOkMeans : (1 : Word) ≠ 0 := by decide
theorem witness_BindOutcomes :
    Config.bootPins.familyRecognised = true ∧ (resolve Config.bootPins .halves).valid = true ∧
    (resolve { Config.bootPins with wrBit := 16 } .split).valid = false ∧
    { Config.bootPins with familyRecognised := false }.familyRecognised = false := by decide
theorem witness_construction : construct Config.bootPins .split [0x10000001] twoElements =
    .ok (start [0x10000001] twoElements) := by decide
theorem witness_ConstructionHasInv : twoElements.wf = true := by decide
theorem witness_StepKeepsInv : strobing5.Inv ∧ ∃ t, step strobing5 = .next t :=
  ⟨strobing5_inv, _, rfl⟩
theorem witness_StepNeverStops : (start [0xF0000000] twoElements).Inv :=
  start_inv _ _ (by decide)
theorem witness_NoBusHazard : reading.Inv ∧
    ∃ t, step reading = .next t ∧ t.trace = reading.trace ++ [.read 0x20000100 0x00FF] :=
  ⟨reading_inv, _, rfl, rfl⟩
theorem witness_NothingInsideAPulse : strobing5.Inv ∧ strobing5.lines.wr = some .low :=
  ⟨strobing5_inv, rfl⟩
theorem witness_IdleHigh_LatchRecord : (start [0x20000005] []).seq = .idle ∧
    nextWith (run 4 (start [0x20000005] []))
      (fun t => t.seq == .idle && t.ghost.lastData == some 5) = true := by decide
theorem witness_SetupBeforeTheFall :
    nextWith (run 2 (start [0x1000002C] []))
      (fun t => t.seq == .busy (.wrcmd 0x2C) (.tx .command .strobeLow)) = true ∧
    nextWith (run 2 (start [0x2000F800] []))
      (fun t => t.seq == .busy (.wrdata 0xF800) (.tx .data .strobeLow)) = true ∧
    nextWith (run 6 (start [0x30000036, 0x48] []))
      (fun t => t.seq == .busy (.wrcmdp 0x36 0x48) (.tx .data .strobeLow)) = true ∧
    nextWith (run 4 (start [0x60000000, 0x20000100, 2] twoElements))
      (fun t => t.seq == .busy (.rawxfer 0x20000100 2) (.tx .data .strobeLow)) = true := by decide
theorem witness_DataWriteComesFirst : (0xFFFFFFFF : Word) ≠ 0 ∧
    construct Config.bootPins .split [] twoElements = .ok (start [] twoElements) := by decide
/-- After `WRCMD` the register-select is known and no data has been written. -/
theorem witness_DataWriteComesFirst_later : commanded.Inv ∧ commanded.seq = .idle ∧
    Event.cs commanded.cfg.registerSelectMask ∉ commanded.trace ∧ commanded.lines.rs = some .low :=
  ⟨commanded_inv, rfl, by decide, rfl⟩
theorem witness_OneFaultPerRequest :
    nextWith (run 1 (start [0xF0000000] [])) (fun t => t.faults.length == 1) = true := by decide
theorem witness_RequestsEndInTheirSteps : (start (encode (.wrmulti 40 5) ++ [7]) []).Inv ∧
    (start (encode (.wrmulti 40 5) ++ [7]) []).seq = .idle ∧
    State.reset.stepsOf (.wrmulti 40 5) = 85 := ⟨start_inv _ _ rfl, rfl, by decide⟩
theorem witness_WragainWhole : (latched5 []).Inv ∧ (latched5 []).Ready ∧
    (latched5 []).ghost.lastData = some 5 := ⟨latched5_inv [] rfl, ⟨test_valid_B0, rfl, rfl⟩, rfl⟩
theorem witness_BulkEqualsRepeats : (latched5 []).Inv ∧ (latched5 []).seq = .idle ∧
    (3 : Word) ≠ 0 ∧ (latched5 []).lines.d = some 5 ∧ (latched5 []).lines.rs = some .high :=
  ⟨latched5_inv [] rfl, rfl, by decide, rfl, rfl⟩
theorem witness_RawEqualsDataWrites : (start [] twoElements).Inv ∧
    (start [] twoElements).seq = .idle ∧ (2 : Word) ≠ 0 ∧
    bufferOK (start [] twoElements).cfg (start [] twoElements).mem 0x20000100 2 = true :=
  ⟨start_inv _ _ (by decide), rfl, by decide, by decide⟩
theorem witness_FillWritesNTimes : (latched5 twoElements).Inv ∧ 2 ^ 32 ≤ 2 ^ 32 ∧
    0xFFFF < 2 ^ 16 := ⟨latched5_inv _ (by decide), by decide, by decide⟩

end Sys2Proof.Tests
end

/-! # One micro-step of any request

What every row of every request's table has in common: one micro-operation on the bus or none, at
most one
record, nothing of the configuration, the directions, the port or the memory; then the sequencer
moves on. -/

section
namespace Sys2Proof.Machine

/-! ## One operation of a row, before the sequencer moves (R27, R31, R32) -/

/-- What the bus shows of one operation made at the micro-step `m`: nothing, or one event whose
control mask
is one line's (R63); where the strobe is to be raised, exactly that (R226). -/
def BusMove (m : MicroStep) (s t : State) : Prop :=
  (m.raisesStrobe = false ∧ t.trace = s.trace ∧ t.lines = s.lines) ∨
  ∃ e : Event, e.oneLine s.cfg ∧ (m.raisesStrobe = true → e = .cs s.cfg.writeStrobeMask) ∧
    t.trace = s.trace ++ [e] ∧ t.lines = s.lines.after s.cfg e

/-- One operation of the micro-step `m`: what it may do to the components that all requests share.
The
working registers, the latch record and the sequencer are each request's own affair. -/
structure MicroOp (m : MicroStep) (s t : State) : Prop where
  cfg : t.cfg = s.cfg
  dir : t.dir = s.dir
  port : t.port = s.port
  mem : t.mem = s.mem
  position : t.reqIndex = s.reqIndex
  bus : BusMove m s t
  /-- Only a contract test records a fault, and one at most (R201, R203). -/
  records : t.faults = s.faults ∨
    (m = .check ∧ ∃ info, t.faults = s.faults ++ [⟨s.reqIndex, info⟩])

namespace MicroOp

variable {m : MicroStep} {s t : State}

theorem nothing (hm : m.raisesStrobe = false) : MicroOp m s s :=
  ⟨rfl, rfl, rfl, rfl, rfl, .inl ⟨hm, rfl, rfl⟩, .inl rfl⟩

theorem emit {e : Event} (he : e.oneLine s.cfg)
    (hm : m.raisesStrobe = true → e = .cs s.cfg.writeStrobeMask) : MicroOp m s (s.emit e) :=
  ⟨rfl, rfl, rfl, rfl, rfl, .inr ⟨e, he, hm, rfl, rfl⟩, .inl rfl⟩

/-- An event of a micro-step that does not raise the strobe. -/
theorem event {e : Event} (he : e.oneLine s.cfg) (hm : m.raisesStrobe = false) :
    MicroOp m s (s.emit e) :=
  emit he fun h => absurd h (by simp [hm])

theorem strobeHigh : MicroOp m s s.strobeHigh := emit (.inl rfl) fun _ => rfl

theorem strobeLow (hm : m.raisesStrobe = false) : MicroOp m s s.strobeLow := event (.inl rfl) hm

theorem select (mode : BusMode) (hm : m.raisesStrobe = false) : MicroOp m s (s.select mode) := by
  cases mode <;> exact event (.inr (.inl rfl)) hm

theorem dly (n : Nat) (hm : m.raisesStrobe = false) : MicroOp m s (s.dly n) := event trivial hm

theorem raise (info : FaultInfo) : MicroOp .check s (s.raise info) :=
  ⟨rfl, rfl, rfl, rfl, rfl, .inl ⟨rfl, rfl, rfl⟩, .inr ⟨rfl, info, rfl⟩⟩

theorem checkWragain (v : Half) : MicroOp .check s (s.checkWragain v) := by
  unfold State.checkWragain
  split
  · exact nothing rfl
  · exact raise _

theorem checkWrmulti (n : Word) (v : Half) : MicroOp .check s (s.checkWrmulti n v) := by
  unfold State.checkWrmulti
  split
  · exact nothing rfl
  · exact raise _

/-- Writing the working registers and the latch record adds nothing. -/
theorem keep (h : MicroOp m s t) (e : Eng) (r : Raw) (g : Ghost) :
    MicroOp m s { t with eng := e, raw := r, ghost := g } :=
  ⟨h.cfg, h.dir, h.port, h.mem, h.position, h.bus, h.records⟩

theorem readElement (a : Word) (v : Half) (hm : m.raisesStrobe = false) :
    MicroOp m s (s.readElement a v) :=
  (event (e := .read a v) trivial hm).keep s.eng { s.raw with word := some v } s.ghost

end MicroOp

/-! ## A row: one operation, then the sequencer moves (R27) -/

/-- One row of the request `i` at the micro-step `m`: one operation, and the sequencer goes to
another
micro-step of `i` past the contract test, or the request ends. -/
def Row (i : Instr) (m : MicroStep) (s t : State) : Prop :=
  ∃ u, MicroOp m s u ∧ ((∃ m', m' ≠ .check ∧ t = u.goto i m') ∨ t = u.finish)

section
variable {i : Instr} {m m' : MicroStep} {s u t : State}

theorem Row.goto (h : MicroOp m s u) (hm : m' ≠ .check) : Row i m s (u.goto i m') :=
  ⟨u, h, .inl ⟨m', hm, rfl⟩⟩

theorem Row.finish (h : MicroOp m s u) : Row i m s u.finish := ⟨u, h, .inr rfl⟩

theorem Row.cfg (h : Row i m s t) : t.cfg = s.cfg := by
  obtain ⟨u, hu, ⟨m', -, rfl⟩ | rfl⟩ := h <;> exact hu.cfg

theorem Row.dir (h : Row i m s t) : t.dir = s.dir := by
  obtain ⟨u, hu, ⟨m', -, rfl⟩ | rfl⟩ := h <;> exact hu.dir

theorem Row.port (h : Row i m s t) : t.port = s.port := by
  obtain ⟨u, hu, ⟨m', -, rfl⟩ | rfl⟩ := h <;> exact hu.port

theorem Row.mem (h : Row i m s t) : t.mem = s.mem := by
  obtain ⟨u, hu, ⟨m', -, rfl⟩ | rfl⟩ := h <;> exact hu.mem

theorem Row.bus (h : Row i m s t) : BusMove m s t := by
  obtain ⟨u, hu, ⟨m', -, rfl⟩ | rfl⟩ := h <;> exact hu.bus

theorem Row.records (h : Row i m s t) : t.faults = s.faults ∨
    (m = .check ∧ ∃ info, t.faults = s.faults ++ [⟨s.reqIndex, info⟩]) := by
  obtain ⟨u, hu, ⟨m', -, rfl⟩ | rfl⟩ := h <;> exact hu.records

/-- The request goes on past its contract test, or the next one has the next position. -/
theorem Row.position (h : Row i m s t) :
    (t.pastCheck ∧ t.reqIndex = s.reqIndex) ∨ t.reqIndex = s.reqIndex + 1 := by
  obtain ⟨u, hu, ⟨m', hm, rfl⟩ | rfl⟩ := h
  · exact .inl ⟨hm, hu.position⟩
  · exact .inr (by simp [hu.position])

end

/-! ## Every row of every table is one -/

section
variable {m : MicroStep} {s t : State}

/-- The rows of a transaction (R140), if its ending is one. -/
theorem transaction_row (i : Instr) (mode : BusMode) (x : Half) (ending : State → State)
    (hend : Row i (.tx mode .strobeHigh) s (ending s.strobeHigh)) (r : TxStep) :
    Row i (.tx mode r) s (s.transaction i mode x ending r) := by
  cases r with
  | latch => exact .goto (.event trivial rfl) (by simp)
  | select => exact .goto (.select mode rfl) (by simp)
  | strobeLow => exact .goto (.strobeLow rfl) (by simp)
  | strobeHigh => exact hend

theorem wrcmdTable_row {c : Half} (h : s.wrcmdTable c m = .next t) : Row (.wrcmd c) m s t := by
  unfold State.wrcmdTable at h
  split at h <;> cases h
  refine transaction_row _ _ _ _ ?_ _
  exact .finish (MicroOp.strobeHigh.keep _ _ _)

theorem wrdataTable_row {v : Half} (h : s.wrdataTable v m = .next t) : Row (.wrdata v) m s t := by
  unfold State.wrdataTable at h
  split at h <;> cases h
  refine transaction_row _ _ _ _ ?_ _
  exact .finish (MicroOp.strobeHigh.keep _ _ _)

theorem wrcmdpTable_row {c p : Half} (h : s.wrcmdpTable c p m = .next t) :
    Row (.wrcmdp c p) m s t := by
  unfold State.wrcmdpTable at h
  split at h <;> cases h
  · refine transaction_row _ _ _ _ ?_ _
    exact .goto (MicroOp.strobeHigh.keep _ _ _) (by simp)
  · refine transaction_row _ _ _ _ ?_ _
    exact .finish (MicroOp.strobeHigh.keep _ _ _)

theorem wragainTable_row {v : Half} (h : s.wragainTable v m = .next t) : Row (.wragain v) m s t := by
  unfold State.wragainTable at h
  split at h <;> cases h
  · exact .goto (.checkWragain v) (by simp)
  · exact .goto (.strobeLow rfl) (by simp)
  · exact .finish .strobeHigh

/-- The branch after the entry test and the batch test (R163, R165). -/
theorem batchOrDispatch_row {u : State} (i : Instr) (h : MicroOp m s u) :
    Row i m s (u.batchOrDispatch i) := by
  unfold State.batchOrDispatch
  split
  · exact .goto (h.keep _ _ _) (by simp)
  · exact .goto h (by simp)

theorem wrmultiTable_row {n : Word} {v : Half} (h : s.wrmultiTable n v m = .next t) :
    Row (.wrmulti n v) m s t := by
  unfold State.wrmultiTable at h
  split at h <;> cases h
  · exact .goto ((MicroOp.checkWrmulti n v).keep _ _ _) (by simp)
  · exact batchOrDispatch_row _ (.nothing rfl)
  · exact .goto (.strobeLow rfl) (by simp)
  · exact .goto (MicroOp.strobeHigh.keep _ _ _) (by split <;> simp)
  · exact batchOrDispatch_row _ ((MicroOp.nothing rfl).keep _ _ _)
  · exact .goto ((MicroOp.nothing rfl).keep _ _ _) (by split <;> simp)
  · exact .goto (.strobeLow rfl) (by simp)
  · exact .goto (MicroOp.strobeHigh.keep _ _ _) (by split <;> simp)
  · exact .finish ((MicroOp.nothing rfl).keep _ _ _)

theorem rawxferCheck_row (b n : Word) : Row (.rawxfer b n) .check s (s.rawxferCheck b n) := by
  unfold State.rawxferCheck
  split
  · split
    · exact .finish ((MicroOp.nothing rfl).keep _ _ _)
    · exact .goto ((MicroOp.nothing rfl).keep _ _ _) (by simp)
  · exact .finish (.raise _)

theorem rawxferRead_row {b n : Word} (h : s.rawxferRead b n = .next t) :
    Row (.rawxfer b n) .read s t := by
  unfold State.rawxferRead at h
  split at h
  · cases h
  · split at h <;> cases h
    exact .goto (.readElement _ _ rfl) (by simp)

theorem rawxferNext_row (b n i : Word) (x : Half) :
    Row (.rawxfer b n) (.tx .data .strobeHigh) s (s.strobeHigh.rawxferNext b n i x) := by
  unfold State.rawxferNext
  split
  · exact .goto (MicroOp.strobeHigh.keep _ _ _) (by simp)
  · exact .finish (MicroOp.strobeHigh.keep _ _ _)

theorem rawxferTable_row {b n : Word} (h : s.rawxferTable b n m = .next t) :
    Row (.rawxfer b n) m s t := by
  unfold State.rawxferTable at h
  split at h
  · cases h; exact rawxferCheck_row b n
  · exact rawxferRead_row h
  · unfold State.rawxferTx at h
    split at h <;> cases h
    exact transaction_row _ _ _ _ (rawxferNext_row b n _ _) _
  · cases h

theorem resetTable_row (h : s.resetTable m = .next t) : Row .reset m s t := by
  unfold State.resetTable at h
  split at h <;> cases h
  · exact .goto (.dly _ rfl) (by simp)
  · exact .goto (.event (.inr (.inr rfl)) rfl) (by simp)
  · exact .goto (.dly _ rfl) (by simp)
  · exact .goto (.event (.inr (.inr rfl)) rfl) (by simp)
  · exact .goto (.dly _ rfl) (by simp)
  · exact .goto (.event (.inr (.inr rfl)) rfl) (by simp)
  · exact .finish ((MicroOp.dly _ rfl).keep _ _ _)

theorem tableOf_row {i : Instr} (h : tableOf s i m = .next t) : Row i m s t := by
  cases i with
  | wrcmd c => exact wrcmdTable_row h
  | wrdata v => exact wrdataTable_row h
  | wrcmdp c p => exact wrcmdpTable_row h
  | wragain v => exact wragainTable_row h
  | wrmulti n v => exact wrmultiTable_row h
  | rawxfer b n => exact rawxferTable_row h
  | reset => exact resetTable_row h

/-- Whenever `exec` answers a next state, it made a row of the request at the micro-step it was at.
-/
theorem exec_row {i : Instr} (h : exec i s = .next t) : ∃ m, s.AtStep i m ∧ Row i m s t := by
  obtain ⟨m, hat, htab⟩ := exec_next h
  exact ⟨m, hat, tableOf_row htab⟩

end

/-- Settles O29: the frame that every row has. -/
theorem commonFrame : Obligations.CommonFrame := by
  intro i s t h
  obtain ⟨m, -, hrow⟩ := exec_row h
  exact ⟨hrow.cfg, hrow.dir, hrow.port, hrow.mem, fun a => by rw [hrow.mem]⟩

end Sys2Proof.Machine
end

/-! # One step of the block -/

section
namespace Sys2Proof.Machine

/-! ## What a step can be (R27, R70, R76 to R78) -/

/-- The fault of words that are no request (R76, R77, R78). -/
def rejection : Item → Option FaultInfo
  | .request _ => none
  | .illegalOpcode h => some (.illegalOpcode h)
  | .illegalReserved h => some (.illegalReserved h)
  | .incomplete h => some (.incompleteRequest h)

/-- The four things a step of the block from `s` to `t` can be. -/
inductive StepCase (s t : State) : Prop
  /-- A micro-step of the request in flight. -/
  | inFlight (i : Instr) (m : MicroStep) (hs : s.seq = .busy i m) (hx : exec i s = .next t)
  /-- The first micro-step of the request at the front of the port. -/
  | accepted (i : Instr) (rest : List Word) (hs : s.seq = .idle)
      (hd : decodeFront s.port = some (.request i, rest)) (hx : exec i (s.withPort rest) = .next t)
  /-- Words that are no request are rejected. -/
  | rejected (x : Item) (rest : List Word) (info : FaultInfo) (hs : s.seq = .idle)
      (hd : decodeFront s.port = some (x, rest)) (hi : rejection x = some info)
      (ht : t = (s.withPort rest).rejectRequest info)
  /-- Nothing is presented. -/
  | waits (hs : s.seq = .idle) (hd : decodeFront s.port = none) (ht : t = s)

section
variable {s t : State}

theorem step_busy {i : Instr} {m : MicroStep} (hs : s.seq = .busy i m) : step s = exec i s := by
  simp [step, nextRequest_busy hs]

theorem step_accept {i : Instr} {rest : List Word} (hs : s.seq = .idle)
    (hd : decodeFront s.port = some (.request i, rest)) : step s = exec i (s.withPort rest) := by
  simp [step, nextRequest_idle hs, hd]

theorem step_reject {x : Item} {rest : List Word} {info : FaultInfo} (hs : s.seq = .idle)
    (hd : decodeFront s.port = some (x, rest)) (hi : rejection x = some info) :
    step s = .next ((s.withPort rest).rejectRequest info) := by
  cases x <;> simp [rejection] at hi <;> subst hi <;> simp [step, nextRequest_idle hs, hd]

theorem step_wait (hs : s.seq = .idle) (hd : decodeFront s.port = none) : step s = .next s := by
  simp [step, nextRequest_idle hs, hd]

/-- Words at the front of the port are a request or are rejected. -/
theorem request_or_rejection (x : Item) :
    (∃ i, x = .request i) ∨ ∃ info, rejection x = some info := by
  cases x <;> simp [rejection]

theorem step_cases (h : step s = .next t) : StepCase s t := by
  cases hs : s.seq with
  | busy i m => exact .inFlight i m hs (step_busy hs ▸ h)
  | idle =>
    rcases hd : decodeFront s.port with _ | ⟨x, rest⟩
    · rw [step_wait hs hd] at h
      exact .waits hs hd (by cases h; rfl)
    · obtain ⟨i, rfl⟩ | ⟨info, hi⟩ := request_or_rejection x
      · exact .accepted i rest hs hd (step_accept hs hd ▸ h)
      · rw [step_reject hs hd hi] at h
        exact .rejected x rest info hs hd hi (by cases h; rfl)

end

/-- Settles O9. -/
theorem stepRunsTheRequest : Obligations.StepRunsTheRequest :=
  ⟨fun _ _ _ hs hd => step_accept hs hd, fun _ _ _ hs => step_busy hs⟩

/-- Settles O10: no item stands at the front of an empty port. -/
theorem emptyPortWaits : Obligations.EmptyPortWaits :=
  fun _ hs hp => step_wait hs (by rw [hp]; rfl)

/-! ## What a step shows on the bus and in the fault record (R24, R31, R32, R61) -/

/-- The lines and the trace after a step: as before, or one event with the mask of one line. -/
theorem step_bus {s t : State} (h : step s = .next t) :
    (t.trace = s.trace ∧ t.lines = s.lines) ∨
    ∃ e : Event, e.oneLine s.cfg ∧ t.trace = s.trace ++ [e] ∧ t.lines = s.lines.after s.cfg e := by
  have of_exec {i ws} (hx : exec i (s.withPort ws) = .next t) :
      (t.trace = s.trace ∧ t.lines = s.lines) ∨
      ∃ e : Event, e.oneLine s.cfg ∧ t.trace = s.trace ++ [e] ∧
        t.lines = s.lines.after s.cfg e := by
    obtain ⟨m, -, hrow⟩ := exec_row hx
    obtain ⟨-, htr, hl⟩ | ⟨e, he, -, htr, hl⟩ := hrow.bus
    · exact .inl ⟨htr, hl⟩
    · exact .inr ⟨e, he, htr, hl⟩
  cases step_cases h with
  | inFlight i m hs hx => exact of_exec (ws := s.port) hx
  | accepted i rest hs hd hx => exact of_exec hx
  | rejected x rest info hs hd hi ht => subst ht; exact .inl ⟨rfl, rfl⟩
  | waits hs hd ht => subst ht; exact .inl ⟨rfl, rfl⟩

/-- The fault record after a step: as before, or with one record of the current request. -/
theorem step_records {s t : State} (h : step s = .next t) :
    t.faults = s.faults ∨ ∃ info, t.faults = s.faults ++ [⟨s.reqIndex, info⟩] := by
  have of_exec {i ws} (hx : exec i (s.withPort ws) = .next t) :
      t.faults = s.faults ∨ ∃ info, t.faults = s.faults ++ [⟨s.reqIndex, info⟩] := by
    obtain ⟨m, -, hrow⟩ := exec_row hx
    exact hrow.records.imp id And.right
  cases step_cases h with
  | inFlight i m hs hx => exact of_exec (ws := s.port) hx
  | accepted i rest hs hd hx => exact of_exec hx
  | rejected x rest info hs hd hi ht => subst ht; exact .inr ⟨info, rfl⟩
  | waits hs hd ht => subst ht; exact .inl rfl

/-- Settles O13. -/
theorem linesFollowEvents : Obligations.LinesFollowEvents := by
  intro s t h
  obtain hsame | ⟨e, -, htr, hl⟩ := step_bus h
  · exact .inl hsame
  · exact .inr ⟨e, htr, hl⟩

/-- Settles O12. -/
theorem traceAndFaultsOnlyGrow : Obligations.TraceAndFaultsOnlyGrow := by
  intro s t h
  refine ⟨?_, step_records h⟩
  obtain ⟨htr, -⟩ | ⟨e, -, htr, -⟩ := step_bus h
  · exact .inl htr
  · exact .inr ⟨e, htr⟩

/-- An event that a step appends has the mask of one line, if it is a control write (R63). -/
theorem step_oneLine {s t : State} {e : Event} (h : step s = .next t)
    (he : t.trace = s.trace ++ [e]) : e.oneLine s.cfg := by
  obtain ⟨htr, -⟩ | ⟨e', he', htr, -⟩ := step_bus h
  · simp [htr] at he
  · obtain rfl : e' = e := by simpa [htr] using he
    exact he'

/-- Settles O36. -/
theorem oneLinePerControlWrite : Obligations.OneLinePerControlWrite := by
  rintro s t m h (he | he)
  · exact step_oneLine (e := .cs m) h he
  · exact step_oneLine (e := .cr m) h he

end Sys2Proof.Machine
end

/-! # The rows of each table, with the whole next state (R121, R140, R161, R182) -/

section
namespace Sys2Proof.Machine

/-! ## Each micro-operation as `State.did`: lines, event, sequencer -/

section
variable {s : State} (h : s.cfg.valid = true) (i : Instr) (m : MicroStep)
include h

theorem strobeLow_did :
    s.strobeLow = s.did { s.lines with wr := some .low } (.cr s.cfg.writeStrobeMask) s.seq :=
  congrArg (fun l => s.did l (.cr s.cfg.writeStrobeMask) s.seq) (driveLow_wr h s.lines)

theorem strobeHigh_did :
    s.strobeHigh = s.did { s.lines with wr := some .high } (.cs s.cfg.writeStrobeMask) s.seq :=
  congrArg (fun l => s.did l (.cs s.cfg.writeStrobeMask) s.seq) (driveHigh_wr h s.lines)

theorem select_did (mode : BusMode) :
    s.select mode =
      s.did { s.lines with rs := some mode.level } (selectEvent s.cfg mode) s.seq := by
  cases mode with
  | command =>
    exact congrArg (fun l => s.did l (.cr s.cfg.registerSelectMask) s.seq) (driveLow_rs h s.lines)
  | data =>
    exact congrArg (fun l => s.did l (.cs s.cfg.registerSelectMask) s.seq) (driveHigh_rs h s.lines)

theorem raiseReset_did :
    s.cs s.cfg.resetMask = s.did { s.lines with rst := some .high } (.cs s.cfg.resetMask) s.seq :=
  congrArg (fun l => s.did l (.cs s.cfg.resetMask) s.seq) (driveHigh_rst h s.lines)

theorem lowerReset_did :
    s.cr s.cfg.resetMask = s.did { s.lines with rst := some .low } (.cr s.cfg.resetMask) s.seq :=
  congrArg (fun l => s.did l (.cr s.cfg.resetMask) s.seq) (driveLow_rst h s.lines)

/-! The same with the sequencer moved on, as the rows use them. -/

theorem strobeLow_goto : s.strobeLow.goto i m =
    s.did { s.lines with wr := some .low } (.cr s.cfg.writeStrobeMask) (.busy i m) := by
  rw [strobeLow_did h]; rfl

theorem select_goto (mode : BusMode) : (s.select mode).goto i m =
    s.did { s.lines with rs := some mode.level } (selectEvent s.cfg mode) (.busy i m) := by
  rw [select_did h]; rfl

theorem raiseReset_goto : (s.cs s.cfg.resetMask).goto i m =
    s.did { s.lines with rst := some .high } (.cs s.cfg.resetMask) (.busy i m) := by
  rw [raiseReset_did h]; rfl

theorem lowerReset_goto : (s.cr s.cfg.resetMask).goto i m =
    s.did { s.lines with rst := some .low } (.cr s.cfg.resetMask) (.busy i m) := by
  rw [lowerReset_did h]; rfl

end

theorem dw_goto (s : State) (x : Half) (i : Instr) (m : MicroStep) :
    (s.dw x).goto i m = s.did { s.lines with d := some x } (.dw x) (.busy i m) := rfl

theorem dly_goto (s : State) (n : Nat) (i : Instr) (m : MicroStep) :
    (s.dly n).goto i m = s.did s.lines (.delay n) (.busy i m) := rfl

/-! ## The single transactions (R140 to R144) -/

/-- R140's four rows, for a request whose table has a transaction there; its ending is given by
what it makes
of the state after STROBE_HIGH. -/
theorem transactionRows {s : State} {i : Instr} {mode : BusMode} {x : Half}
    {ending ended : State → State} (hv : s.cfg.valid = true)
    (htable : ∀ r, tableOf s i (.tx mode r) = .next (s.transaction i mode x ending r))
    (hend : ∀ l e, ending (s.did l e s.seq) = ended (s.did l e .idle)) :
    TransactionRows s i mode x ended := by
  refine ⟨fun hat => ?_, fun hat => ?_, fun hat => ?_, fun hat => ?_⟩ <;>
    rw [exec_at hat, htable, State.transaction]
  · rw [dw_goto]
  · rw [select_goto hv]
  · rw [strobeLow_goto hv]
  · rw [strobeHigh_did hv, hend]

/-- Settles O15. -/
theorem wrcmdSteps : Obligations.WrcmdSteps := fun _ _ hv =>
  transactionRows hv (fun _ => rfl) (fun _ _ => rfl)

/-- Settles O16. -/
theorem wrdataSteps : Obligations.WrdataSteps := fun _ _ hv =>
  transactionRows hv (fun _ => rfl) (fun _ _ => rfl)

/-- Settles O17: the two halves. -/
theorem wrcmdpSteps : Obligations.WrcmdpSteps := fun _ _ _ hv =>
  ⟨transactionRows hv (fun _ => rfl) (fun _ _ => rfl),
    transactionRows hv (fun _ => rfl) (fun _ _ => rfl)⟩

/-- Settles O18. -/
theorem wragainSteps : Obligations.WragainSteps := by
  intro value s hv
  refine ⟨fun hat => ?_, fun hat => ?_, fun hat => ?_⟩ <;>
    rw [exec_at hat, tableOf, State.wragainTable]
  · rw [checkWragain_eq]; rfl
  · rw [strobeLow_goto hv]
  · rw [strobeHigh_did hv]; rfl

/-! ## `WRMULTI` (R161) -/

/-- The branch on the pulses still to emit (R163, R165). -/
theorem batchOrDispatch_eq {s : State} (i : Instr) {r : Word} (hr : s.eng.rem = some r) :
    s.batchOrDispatch i =
      if 40 ≤ r.toNat then s.enterBatch i else s.goto i .dispatch := by
  simp [State.batchOrDispatch, atLeastBatch_some s.eng hr]

/-- After the pulse `k` of a batch (R161). -/
theorem nextInBatch_eq {s : State} (i : Instr) {k : BitVec 6} (hk : s.eng.k = some k) :
    s.nextInBatch i =
      { s with eng := { s.eng with k := some (k + 1) } }.goto i
        (if k.toNat < 39 then .batchLow else .batchTest) := by
  simp [State.nextInBatch, hk]

/-- The remainder dispatch enters the tail at pair `39 - rem` (R166). -/
theorem enterTail_eq {s : State} (i : Instr) {r : Word} (hr : s.eng.rem = some r) :
    s.enterTail i =
      { s with eng := { s.eng with entry := some (tailEntry r), j := some (tailEntry r) } }.goto i
        (if (tailEntry r).toNat < 39 then .tailLow else .done) := by
  simp [State.enterTail, hr]

/-- After the pulse `j` of the tail (R161). -/
theorem nextInTail_eq {s : State} (i : Instr) {j : BitVec 6} (hj : s.eng.j = some j) :
    s.nextInTail i =
      { s with eng := { s.eng with j := some (j + 1) } }.goto i
        (if (j + 1).toNat < 39 then .tailLow else .done) := by
  simp [State.nextInTail, hj]

/-- An index that is not the last of 6 bits does not wrap (R172). -/
theorem index_succ_toNat {j : BitVec 6} (hj : j.toNat ≤ 39) : (j + 1).toNat = j.toNat + 1 := by
  rw [BitVec.toNat_add, show (1 : BitVec 6).toNat = 1 from rfl]; omega

theorem tailEntry_eq {r : Word} (hr : r.toNat ≤ 39) :
    tailEntry r = BitVec.ofNat 6 (39 - r.toNat) := by
  apply BitVec.eq_of_toNat_eq
  rw [tailEntry_toNat hr, BitVec.toNat_ofNat]; omega

/-- Settles O19. -/
theorem wrmultiSteps : Obligations.WrmultiSteps := by
  rintro count value s i hv rfl
  refine ⟨fun hat => ?check, fun r hat hr => ?entryTest, fun hat => ?batchLow,
    fun k hat hk => ?batchHigh, fun r hat hr => ?batchTest, fun r hat hr hle => ?dispatch,
    fun hat => ?tailLow, fun j hat hj hle => ?tailHigh, fun hat => ?done⟩ <;>
    rw [exec_at hat, tableOf, State.wrmultiTable]
  case check => rw [checkWrmulti_eq]; rfl
  case entryTest => rw [batchOrDispatch_eq _ hr]; rfl
  case batchLow => rw [strobeLow_goto hv]
  case batchHigh => rw [nextInBatch_eq (s := s.strobeHigh) _ hk, strobeHigh_did hv]; rfl
  case batchTest =>
    rw [batchOrDispatch_eq (r := r - 40) _ (by simp [hr, Config.batch])]
    simp [State.takeBatch, State.enterBatch, State.goto, hr, Config.batch]
  case dispatch =>
    rw [enterTail_eq _ hr, tailEntry_toNat hle, tailEntry_eq hle]; rfl
  case tailLow => rw [strobeLow_goto hv]
  case tailHigh =>
    rw [nextInTail_eq (s := s.strobeHigh) _ hj, index_succ_toNat (by omega), strobeHigh_did hv]
    simp only [show j.toNat + 1 < 39 ↔ j.toNat < 38 by omega]; rfl
  case done => rfl

/-! ## `RAWXFER` (R182) and `RESET` (R121) -/

theorem rawxferCheck_none (s : State) (b : Word) : s.rawxferCheck b 0 = s.clearRaw.finish := by
  rw [State.rawxferCheck, if_pos ((rawxferOk_iff s b 0).mpr (.inl rfl)), if_pos rfl]

theorem rawxferCheck_bad {s : State} {b n : Word} (hn : n ≠ 0)
    (hb : bufferOK s.cfg s.mem b n = false) :
    s.rawxferCheck b n = (s.raise (.contractBuffer b n)).finish := by
  have hbad : ¬ s.rawxferOk b n = true := by rw [rawxferOk_iff, hb]; exact (·.elim hn nofun)
  rw [State.rawxferCheck, if_neg hbad]

theorem rawxferCheck_good {s : State} {b n : Word} (hn : n ≠ 0)
    (hb : bufferOK s.cfg s.mem b n = true) :
    s.rawxferCheck b n = (s.rawIndex 0).goto (.rawxfer b n) .read := by
  rw [State.rawxferCheck, if_pos ((rawxferOk_iff s b n).mpr (.inr hb)), if_neg hn]

theorem rawxferRead_some {s : State} {b n i : Word} {v : Half} (hi : s.raw.i = some i)
    (hv : s.mem.read16 (elementAddress b i).toNat = some v) :
    s.rawxferRead b n =
      .next ((s.readElement (elementAddress b i) v).goto (.rawxfer b n) (.tx .data .latch)) := by
  simp [State.rawxferRead, hi, hv]

theorem rawxferTx_some {s : State} {b n i : Word} {x : Half} (hi : s.raw.i = some i)
    (hx : s.raw.word = some x) (r : TxStep) :
    s.rawxferTx b n r =
      .next (s.transaction (.rawxfer b n) .data x (State.rawxferNext b n i x) r) := by
  simp [State.rawxferTx, hi, hx]

/-- Settles O20. -/
theorem rawxferSteps : Obligations.RawxferSteps := by
  rintro b n s i hv rfl
  refine ⟨fun hat hn => ?none, fun hat hn hb => ?bad, fun hat hn hb => ?good,
    fun x v hat hx hread => ?read, fun x v hx hword => ?element⟩
  case none => subst hn; rw [exec_at hat, tableOf, State.rawxferTable, rawxferCheck_none]; rfl
  case bad => rw [exec_at hat, tableOf, State.rawxferTable, rawxferCheck_bad hn hb]; rfl
  case good => rw [exec_at hat, tableOf, State.rawxferTable, rawxferCheck_good hn hb]; rfl
  case read =>
    rw [exec_at hat, tableOf, State.rawxferTable, rawxferRead_some hx hread]; rfl
  case element =>
    refine transactionRows hv (fun r => rawxferTx_some hx hword r) fun l e => ?_
    simp only [State.rawxferNext]
    split <;> rfl

/-- Settles O21. -/
theorem resetSteps : Obligations.ResetSteps := by
  intro s hv
  refine ⟨fun hat => ?_, fun hat => ?_, fun hat => ?_, fun hat => ?_, fun hat => ?_, fun hat => ?_,
    fun hat => ?_⟩ <;> rw [exec_at hat, tableOf, State.resetTable]
  · rfl
  · rw [raiseReset_goto hv]
  · rfl
  · rw [lowerReset_goto hv]
  · rfl
  · rw [raiseReset_goto hv]
  · rfl

end Sys2Proof.Machine
end

/-! # The sequencer part of the invariant

At every micro-step at which the registers agree with the table, the table answers a next state in
which they
agree again. That the block never stops and that a step keeps the invariant both come from this. -/

section
namespace Sys2Proof.Machine

/-! ## `State.SeqOk` and `State.GhostOk` by cases -/

section
variable {s t : State}

theorem seqOk_goto {i : Instr} {m : MicroStep} : (s.goto i m).SeqOk ↔
    s.lines.wr = some (if m.raisesStrobe then .low else .high) ∧ s.StepOk m i := Iff.rfl

theorem seqOk_did {l : Lines} {e : Event} {i : Instr} {m : MicroStep} :
    (s.did l e (.busy i m)).SeqOk ↔
      l.wr = some (if m.raisesStrobe then .low else .high) ∧
        (s.did l e (.busy i m)).StepOk m i := Iff.rfl

theorem seqOk_finish : s.finish.SeqOk ↔
    s.lines.wr = some .high ∧ s.eng = Eng.unknown ∧ s.raw = Raw.unknown ∧ s.GhostOk := Iff.rfl

theorem State.SeqOk.of_idle (h : s.SeqOk) (hs : s.seq = .idle) :
    s.lines.wr = some .high ∧ s.eng = Eng.unknown ∧ s.raw = Raw.unknown ∧ s.GhostOk := by
  rwa [State.SeqOk, hs] at h

theorem State.SeqOk.of_busy {i : Instr} {m : MicroStep} (h : s.SeqOk) (hs : s.seq = .busy i m) :
    s.lines.wr = some (if m.raisesStrobe then .low else .high) ∧ s.StepOk m i := by
  rwa [State.SeqOk, hs] at h

/-- At the next micro-step of a request, in flight or at its first, WR and the registers are as its
table asks. -/
theorem State.SeqOk.at {i : Instr} {m : MicroStep} (h : s.SeqOk) (hat : s.AtStep i m) :
    s.lines.wr = some (if m.raisesStrobe then .low else .high) ∧ s.StepOk m i := by
  obtain hs | ⟨hs, rfl⟩ := hat
  · exact h.of_busy hs
  · obtain ⟨hwr, he, hr, hg⟩ := h.of_idle hs
    cases i with
    | wrcmd c => exact ⟨hwr, he, hr, .latch, rfl, trivial⟩
    | wrdata v => exact ⟨hwr, he, hr, .latch, rfl, trivial⟩
    | wrcmdp c p => exact ⟨hwr, he, hr, .inl ⟨.latch, rfl, trivial⟩⟩
    | wragain v => exact ⟨hwr, he, hr, hg, .inl rfl⟩
    | wrmulti n v => exact ⟨hwr, hr, hg, trivial⟩
    | rawxfer b n => exact ⟨hwr, he, fun _ => hg, hr⟩
    | reset => exact ⟨hwr, he, hr, trivial⟩

theorem ghostOk_none (h : s.ghost.lastData = none) : s.GhostOk :=
  fun v hv => by simp [h] at hv

theorem ghostOk_some {x : Half} (h : s.ghost.lastData = some x) (hd : s.lines.d = some x)
    (hrs : s.lines.rs = some .high) : s.GhostOk := by
  intro v hv
  obtain rfl : x = v := by simpa [h] using hv
  exact ⟨hd, hrs⟩

/-- The latch record stays true while it, the data lines and RS stay. -/
theorem State.GhostOk.congr (h : s.GhostOk) (hg : t.ghost = s.ghost) (hd : t.lines.d = s.lines.d)
    (hrs : t.lines.rs = s.lines.rs) : t.GhostOk := fun v hv => by
  rw [hd, hrs]; exact h v (hg ▸ hv)

end

/-! ## The tables answer, and keep the agreement -/

section
variable {s : State} {m : MicroStep} (hv : s.cfg.valid = true)
  (hwr : s.lines.wr = some (if m.raisesStrobe then .low else .high))
include hv hwr

omit hwr in
/-- A transaction of `x` (R140): its lines come about row by row. `hstep` says that the request's
registers ask
no more of the lines than the transaction does, `hend` that its ending leaves them in agreement. -/
theorem transaction_seqOk {i : Instr} {mode : BusMode} {x : Half} {ending : State → State} {r : TxStep}
    (hwr : s.lines.wr = some (if (MicroStep.tx mode r).raisesStrobe then .low else .high))
    (htx : TxOk mode x s.lines r)
    (hstep : ∀ l e q r', TxOk mode x l r' → (s.did l e q).StepOk (.tx mode r') i)
    (hend : ∀ l e q, l.wr = some .high → l.d = some x → l.rs = some mode.level →
      (ending (s.did l e q)).SeqOk) :
    (s.transaction i mode x ending r).SeqOk := by
  cases r with
  | latch =>
    rw [State.transaction, dw_goto]
    exact seqOk_did.mpr ⟨hwr, hstep _ _ _ .select rfl⟩
  | select =>
    rw [State.transaction, select_goto hv]
    exact seqOk_did.mpr ⟨hwr, hstep _ _ _ .strobeLow ⟨htx, rfl⟩⟩
  | strobeLow =>
    rw [State.transaction, strobeLow_goto hv]
    exact seqOk_did.mpr ⟨rfl, hstep _ _ _ .strobeHigh htx⟩
  | strobeHigh =>
    obtain ⟨hd, hrs⟩ := htx
    rw [State.transaction, strobeHigh_did hv]
    exact hend _ _ _ rfl hd hrs

theorem wrcmdTable_seqOk {c : Half} (hok : s.StepOk m (.wrcmd c)) :
    ∃ t, s.wrcmdTable c m = .next t ∧ t.SeqOk := by
  obtain ⟨he, hr, r, rfl, htx⟩ := hok
  refine ⟨_, rfl, transaction_seqOk hv hwr htx (fun _ _ _ r' h => ⟨he, hr, r', rfl, h⟩) ?_⟩
  exact fun l e q hl _ _ => seqOk_finish.mpr ⟨hl, he, hr, ghostOk_none rfl⟩

theorem wrdataTable_seqOk {v : Half} (hok : s.StepOk m (.wrdata v)) :
    ∃ t, s.wrdataTable v m = .next t ∧ t.SeqOk := by
  obtain ⟨he, hr, r, rfl, htx⟩ := hok
  refine ⟨_, rfl, transaction_seqOk hv hwr htx (fun _ _ _ r' h => ⟨he, hr, r', rfl, h⟩) ?_⟩
  exact fun l e q hl hd hrs => seqOk_finish.mpr ⟨hl, he, hr, ghostOk_some rfl hd hrs⟩

theorem wrcmdpTable_seqOk {c p : Half} (hok : s.StepOk m (.wrcmdp c p)) :
    ∃ t, s.wrcmdpTable c p m = .next t ∧ t.SeqOk := by
  obtain ⟨he, hr, ⟨r, rfl, htx⟩ | ⟨r, rfl, htx⟩⟩ := hok
  · refine ⟨_, rfl, transaction_seqOk hv hwr htx
      (fun _ _ _ r' h => ⟨he, hr, .inl ⟨r', rfl, h⟩⟩) ?_⟩
    exact fun l e q hl _ _ => seqOk_goto.mpr ⟨hl, he, hr, .inr ⟨.latch, rfl, trivial⟩⟩
  · refine ⟨_, rfl, transaction_seqOk hv hwr htx
      (fun _ _ _ r' h => ⟨he, hr, .inr ⟨r', rfl, h⟩⟩) ?_⟩
    exact fun l e q hl hd hrs => seqOk_finish.mpr ⟨hl, he, hr, ghostOk_some rfl hd hrs⟩

theorem wragainTable_seqOk {v : Half} (hok : s.StepOk m (.wragain v)) :
    ∃ t, s.wragainTable v m = .next t ∧ t.SeqOk := by
  obtain ⟨he, hr, hg, rfl | rfl | rfl⟩ := hok <;> refine ⟨_, rfl, ?_⟩
  · rw [checkWragain_eq]
    exact seqOk_goto.mpr ⟨hwr, he, hr, hg, .inr (.inl rfl)⟩
  · rw [strobeLow_goto hv]
    exact seqOk_did.mpr ⟨rfl, he, hr, hg.congr rfl rfl rfl, .inr (.inr rfl)⟩
  · rw [strobeHigh_did hv]
    exact seqOk_finish.mpr ⟨rfl, he, hr, hg.congr rfl rfl rfl⟩

omit hv hwr in
/-- Both branches of the entry test and of the batch test (R163, R165). -/
theorem batchOrDispatch_seqOk {n r : Word} {v : Half} (hr : s.eng.rem = some r)
    (hwr : s.lines.wr = some .high) (hraw : s.raw = Raw.unknown) (hg : s.GhostOk) :
    (s.batchOrDispatch (.wrmulti n v)).SeqOk := by
  rw [batchOrDispatch_eq _ hr]
  split
  · exact seqOk_goto.mpr ⟨hwr, hraw, hg, r, 0, hr, rfl, ‹_›, by decide⟩
  · exact seqOk_goto.mpr ⟨hwr, hraw, hg, r, hr, by omega⟩

theorem wrmultiTable_seqOk {n : Word} {v : Half} (hok : s.StepOk m (.wrmulti n v)) :
    ∃ t, s.wrmultiTable n v m = .next t ∧ t.SeqOk := by
  obtain ⟨hraw, hg, heng⟩ := hok
  cases m with
  | check =>
    refine ⟨_, rfl, ?_⟩
    rw [checkWrmulti_eq]
    exact seqOk_goto.mpr ⟨hwr, hraw, hg, rfl⟩
  | entryTest => exact ⟨_, rfl, batchOrDispatch_seqOk heng hwr hraw hg⟩
  | batchLow =>
    refine ⟨_, rfl, ?_⟩
    rw [strobeLow_goto hv]
    exact seqOk_did.mpr ⟨rfl, hraw, hg.congr rfl rfl rfl, heng⟩
  | batchHigh =>
    obtain ⟨r, k, hr, hk, hr40, hk40⟩ := heng
    refine ⟨_, rfl, ?_⟩
    rw [nextInBatch_eq (s := s.strobeHigh) _ hk, strobeHigh_did hv]
    split
    · refine seqOk_goto.mpr ⟨rfl, hraw, hg.congr rfl rfl rfl, r, k + 1, hr, rfl, hr40, ?_⟩
      rw [index_succ_toNat (by omega)]; omega
    · have h40 : k + 1 = 40 := by
        apply BitVec.eq_of_toNat_eq
        rw [index_succ_toNat (by omega)]; change k.toNat + 1 = 40; omega
      exact seqOk_goto.mpr ⟨rfl, hraw, hg.congr rfl rfl rfl, r, hr, congrArg some h40, hr40⟩
  | batchTest =>
    obtain ⟨r, hr, -, -⟩ := heng
    exact ⟨_, rfl, batchOrDispatch_seqOk (r := r - 40) (by simp [hr, Config.batch]) hwr hraw hg⟩
  | dispatch =>
    obtain ⟨r, hr, hr40⟩ := heng
    have hentry := tailEntry_toNat (r := r) (by omega)
    refine ⟨_, rfl, ?_⟩
    rw [enterTail_eq _ hr]
    split
    · exact seqOk_goto.mpr ⟨hwr, hraw, hg, r, _, _, hr, rfl, rfl, by omega, le_rfl, ‹_›⟩
    · have h39 : tailEntry r = 39 := by
        apply BitVec.eq_of_toNat_eq
        change (tailEntry r).toNat = 39; omega
      exact seqOk_goto.mpr ⟨hwr, hraw, hg, r, _, hr, rfl, congrArg some h39, by omega⟩
  | tailLow =>
    refine ⟨_, rfl, ?_⟩
    rw [strobeLow_goto hv]
    exact seqOk_did.mpr ⟨rfl, hraw, hg.congr rfl rfl rfl, heng⟩
  | tailHigh =>
    obtain ⟨r, n, j, hr, hn, hj, hsum, hnj, hj39⟩ := heng
    have hsucc := index_succ_toNat (j := j) (by omega)
    refine ⟨_, rfl, ?_⟩
    rw [nextInTail_eq (s := s.strobeHigh) _ hj, strobeHigh_did hv]
    split
    · exact seqOk_goto.mpr ⟨rfl, hraw, hg.congr rfl rfl rfl, r, n, j + 1, hr, hn, rfl, hsum,
        by omega, ‹_›⟩
    · have h39 : j + 1 = 39 := by
        apply BitVec.eq_of_toNat_eq
        change (j + 1).toNat = 39; omega
      exact seqOk_goto.mpr ⟨rfl, hraw, hg.congr rfl rfl rfl, r, n, hr, hn, congrArg some h39, hsum⟩
  | done => exact ⟨_, rfl, seqOk_finish.mpr ⟨hwr, rfl, hraw, hg⟩⟩
  | _ => exact heng.elim

omit hv in
theorem rawxferCheck_seqOk {b n : Word} (hm : m = .check) (hok : s.StepOk m (.rawxfer b n)) :
    (s.rawxferCheck b n).SeqOk := by
  subst hm
  obtain ⟨he, hg, hr⟩ := hok
  by_cases hn : n = 0
  · subst hn
    rw [rawxferCheck_none]
    exact seqOk_finish.mpr ⟨hwr, he, rfl, hg rfl⟩
  · cases hb : bufferOK s.cfg s.mem b n with
    | false =>
      rw [rawxferCheck_bad hn hb]
      exact seqOk_finish.mpr ⟨hwr, he, hr, hg rfl⟩
    | true =>
      have hpos : 0 < n.toNat := Nat.pos_of_ne_zero fun h => hn (BitVec.eq_of_toNat_eq h)
      rw [rawxferCheck_good hn hb]
      exact seqOk_goto.mpr ⟨hwr, he, nofun, hb, 0, rfl, hpos⟩

omit hv hwr in
/-- After the transaction of element `i` the next one is read, or the transfer ends (R180). -/
theorem rawxferNext_seqOk {b n i : Word} {x : Half} (he : s.eng = Eng.unknown)
    (hb : bufferOK s.cfg s.mem b n = true) (hwr : s.lines.wr = some .high)
    (hd : s.lines.d = some x) (hrs : s.lines.rs = some .high) :
    (s.rawxferNext b n i x).SeqOk := by
  unfold State.rawxferNext
  split
  · have hsucc : (i + 1).toNat = i.toNat + 1 := by
      rw [BitVec.toNat_add, show (1 : Word).toNat = 1 from rfl]; omega
    exact seqOk_goto.mpr ⟨hwr, he, nofun, hb, i + 1, rfl, hsucc ▸ ‹_›⟩
  · exact seqOk_finish.mpr ⟨hwr, he, rfl, ghostOk_some rfl hd hrs⟩

theorem rawxferTable_seqOk {b n : Word} (hok : s.StepOk m (.rawxfer b n)) :
    ∃ t, s.rawxferTable b n m = .next t ∧ t.SeqOk := by
  have ⟨he, _, hraw⟩ := hok
  cases m with
  | check => exact ⟨_, rfl, rawxferCheck_seqOk hwr rfl hok⟩
  | read =>
    obtain ⟨hb, i, hi, hlt⟩ := hraw
    obtain ⟨x, hx⟩ := bufferOK_read hb hlt
    refine ⟨_, rawxferRead_some hi hx, seqOk_goto.mpr ⟨hwr, he, nofun, hb, i, x, hi, hlt, rfl, ?_⟩⟩
    exact ⟨elementAddress_toNat hb hlt ▸ hx, trivial⟩
  | tx mode r =>
    cases mode with
    | command => exact hraw.elim
    | data =>
      obtain ⟨hb, i, x, hi, hlt, hword, hx, htx⟩ := hraw
      refine ⟨_, rawxferTx_some hi hword r, transaction_seqOk hv hwr htx
        (fun _ _ _ r' h => ⟨he, nofun, hb, i, x, hi, hlt, hword, hx, h⟩) ?_⟩
      exact fun l e q hl hd hrs => rawxferNext_seqOk he hb hl hd hrs
  | _ => exact hraw.elim

theorem resetTable_seqOk (hok : s.StepOk m .reset) : ∃ t, s.resetTable m = .next t ∧ t.SeqOk := by
  obtain ⟨he, hr, hrst⟩ := hok
  cases m with
  | rstSettle => exact ⟨_, rfl, seqOk_goto.mpr ⟨hwr, he, hr, trivial⟩⟩
  | rstHigh =>
    refine ⟨_, rfl, ?_⟩
    rw [raiseReset_goto hv]
    exact seqOk_did.mpr ⟨hwr, he, hr, rfl⟩
  | rstHighWait => exact ⟨_, rfl, seqOk_goto.mpr ⟨hwr, he, hr, hrst⟩⟩
  | rstAssert =>
    refine ⟨_, rfl, ?_⟩
    rw [lowerReset_goto hv]
    exact seqOk_did.mpr ⟨hwr, he, hr, rfl⟩
  | rstAssertWait => exact ⟨_, rfl, seqOk_goto.mpr ⟨hwr, he, hr, hrst⟩⟩
  | rstRelease =>
    refine ⟨_, rfl, ?_⟩
    rw [raiseReset_goto hv]
    exact seqOk_did.mpr ⟨hwr, he, hr, rfl⟩
  | rstReleaseWait => exact ⟨_, rfl, seqOk_finish.mpr ⟨hwr, he, hr, ghostOk_none rfl⟩⟩
  | _ => exact hrst.elim

/-- Where the registers agree with the table, it answers, and they agree again. -/
theorem tableOf_seqOk {i : Instr} (hok : s.StepOk m i) :
    ∃ t, tableOf s i m = .next t ∧ t.SeqOk := by
  cases i with
  | wrcmd c => exact wrcmdTable_seqOk hv hwr hok
  | wrdata v => exact wrdataTable_seqOk hv hwr hok
  | wrcmdp c p => exact wrcmdpTable_seqOk hv hwr hok
  | wragain v => exact wragainTable_seqOk hv hwr hok
  | wrmulti n v => exact wrmultiTable_seqOk hv hwr hok
  | rawxfer b n => exact rawxferTable_seqOk hv hwr hok
  | reset => exact resetTable_seqOk hv hwr hok

end

/-- In a state of the invariant a request at one of its micro-steps answers, and the sequencer and
the registers
agree again. -/
theorem State.Inv.exec_seqOk {s : State} {i : Instr} {m : MicroStep} (h : s.Inv)
    (hat : s.AtStep i m) : ∃ t, exec i s = .next t ∧ t.SeqOk := by
  obtain ⟨hwr, hok⟩ := h.sequencer.at hat
  obtain ⟨t, ht, hseq⟩ := tableOf_seqOk h.valid hwr hok
  exact ⟨t, (exec_at hat).trans ht, hseq⟩

end Sys2Proof.Machine
end

/-! # The invariant of the block -/

section
namespace Sys2Proof.Machine

/-! ## The fault record (R203, R204) -/

/-- Records in stream order, none later than position `p`. -/
def RecordsUpTo (p : Nat) (fs : List FaultRecord) : Prop :=
  fs.Pairwise (fun f g => f.reqIndex < g.reqIndex) ∧ ∀ f ∈ fs, f.reqIndex ≤ p

section
variable {s t : State}

theorem State.FaultsOk.recordsUpTo (h : s.FaultsOk) : RecordsUpTo s.reqIndex s.faults :=
  ⟨h.1, fun f hf => (h.2 f hf).elim Nat.le_of_lt fun ⟨he, _⟩ => he.le⟩

/-- Before the contract test the current request has no record. -/
theorem State.FaultsOk.earlier (h : s.FaultsOk) (hc : ¬ s.pastCheck) :
    ∀ f ∈ s.faults, f.reqIndex < s.reqIndex :=
  fun f hf => (h.2 f hf).resolve_right fun ⟨_, hp⟩ => hc hp

/-- So the current request may be recorded. -/
theorem State.FaultsOk.append (h : s.FaultsOk) (hc : ¬ s.pastCheck) (info : FaultInfo) :
    RecordsUpTo s.reqIndex (s.faults ++ [⟨s.reqIndex, info⟩]) := by
  have hlt := h.earlier hc
  constructor
  · rw [List.pairwise_append]
    exact ⟨h.1, List.pairwise_singleton .., fun f hf g hg => by
      rw [List.mem_singleton.mp hg]; exact hlt f hf⟩
  · intro f hf
    obtain hf | hf := List.mem_append.mp hf
    · exact (hlt f hf).le
    · rw [List.mem_singleton.mp hf]

/-- The record stays in order when the request goes on past its contract test or the next position
comes. -/
theorem faultsOk_of_recordsUpTo {p : Nat} (h : RecordsUpTo p t.faults)
    (hp : (t.pastCheck ∧ t.reqIndex = p) ∨ t.reqIndex = p + 1) : t.FaultsOk := by
  refine ⟨h.1, fun f hf => ?_⟩
  have hle := h.2 f hf
  obtain ⟨hc, hp⟩ | hp := hp
  · obtain hlt | heq := hle.lt_or_eq
    · exact .inl (hp ▸ hlt)
    · exact .inr ⟨hp ▸ heq, hc⟩
  · exact .inl (by omega)

theorem not_pastCheck_of_idle (h : s.seq = .idle) : ¬ s.pastCheck := by simp [State.pastCheck, h]

theorem not_pastCheck_of_check {i : Instr} (h : s.AtStep i .check) : ¬ s.pastCheck := by
  obtain h | ⟨h, -⟩ := h <;> simp [State.pastCheck, h]

theorem Row.faultsOk {i : Instr} {m : MicroStep} (hrow : Row i m s t) (hat : s.AtStep i m)
    (h : s.FaultsOk) : t.FaultsOk := by
  refine faultsOk_of_recordsUpTo ?_ hrow.position
  obtain hsame | ⟨rfl, info, happ⟩ := hrow.records
  · rw [hsame]; exact h.recordsUpTo
  · rw [happ]; exact h.append (not_pastCheck_of_check hat) info

/-! ## The lines and the trace (R24, R225, R226) -/

theorem BusMove.levels {m : MicroStep} (hb : BusMove m s t)
    (h : s.lines = Lines.replay s.cfg Lines.unknown s.trace) :
    t.lines = Lines.replay s.cfg Lines.unknown t.trace := by
  obtain ⟨-, htr, hl⟩ | ⟨e, -, -, htr, hl⟩ := hb
  · rw [htr, hl, h]
  · rw [htr, hl, replay_append, ← h, replay_cons, replay_nil]

/-- The trace stays clean: the mask is one line's, and while WR is low the event can only raise WR.
-/
theorem BusMove.clean {m : MicroStep} (hb : BusMove m s t)
    (h : s.lines = Lines.replay s.cfg Lines.unknown s.trace)
    (hwr : s.lines.wr = some .low → m.raisesStrobe = true)
    (hc : CleanTrace s.cfg Lines.unknown s.trace) : CleanTrace s.cfg Lines.unknown t.trace := by
  obtain ⟨-, htr, -⟩ | ⟨e, he, hrise, htr, -⟩ := hb
  · rwa [htr]
  · rw [htr, cleanTrace_append, ← h]
    exact ⟨hc, ⟨he, fun hlow => hrise (hwr hlow)⟩, trivial⟩

end

/-! ## Every step keeps the invariant -/

section
variable {s t : State}

theorem State.Inv.withPort (h : s.Inv) (ws : List Word) : (s.withPort ws).Inv :=
  ⟨h.valid, h.memory, h.outputs, h.levels, h.clean, h.sequencer, h.records⟩

theorem State.Inv.of_exec {i : Instr} (h : s.Inv) (hx : exec i s = .next t) : t.Inv := by
  obtain ⟨m, hat, hrow⟩ := exec_row hx
  obtain ⟨hwr, -⟩ := h.sequencer.at hat
  have hlow : s.lines.wr = some .low → m.raisesStrobe = true := by
    rw [hwr]; cases m.raisesStrobe <;> simp
  obtain ⟨u, hu, hseq⟩ := h.exec_seqOk hat
  obtain rfl : u = t := by simpa [hx] using hu.symm
  exact
    { valid := hrow.cfg ▸ h.valid
      memory := hrow.mem ▸ h.memory
      outputs := hrow.dir ▸ h.outputs
      levels := hrow.cfg ▸ hrow.bus.levels h.levels
      clean := hrow.cfg ▸ hrow.bus.clean h.levels hlow h.clean
      sequencer := hseq
      records := hrow.faultsOk hat h.records }

theorem State.Inv.rejectRequest (h : s.Inv) (hs : s.seq = .idle) (info : FaultInfo) :
    (s.rejectRequest info).Inv where
  valid := h.valid
  memory := h.memory
  outputs := h.outputs
  levels := h.levels
  clean := h.clean
  sequencer := h.sequencer.of_idle hs
  records := faultsOk_of_recordsUpTo (h.records.append (not_pastCheck_of_idle hs) info) (.inr rfl)

theorem State.Inv.of_step (h : s.Inv) (hstep : step s = .next t) : t.Inv := by
  cases step_cases hstep with
  | inFlight i m hs hx => exact h.of_exec hx
  | accepted i rest hs hd hx => exact (h.withPort rest).of_exec hx
  | rejected x rest info hs hd hi ht => exact ht ▸ (h.withPort rest).rejectRequest hs info
  | waits hs hd ht => exact ht ▸ h

end

/-- Settles O47. -/
theorem stepKeepsInv : Obligations.StepKeepsInv := fun _ _ h hstep => h.of_step hstep

/-- Settles O48: every micro-step of a request answers, and so do rejecting and waiting. -/
theorem stepNeverStops : Obligations.StepNeverStops := by
  intro s h
  cases hs : s.seq with
  | busy i m =>
    obtain ⟨t, ht, -⟩ := h.exec_seqOk (.inl hs)
    exact ⟨t, (step_busy hs).trans ht⟩
  | idle =>
    rcases hd : decodeFront s.port with _ | ⟨x, rest⟩
    · exact ⟨s, step_wait hs hd⟩
    · obtain ⟨i, rfl⟩ | ⟨info, hi⟩ := request_or_rejection x
      · obtain ⟨t, ht, -⟩ := (h.withPort rest).exec_seqOk (i := i) (.inr ⟨hs, rfl⟩)
        exact ⟨t, (step_accept hs hd).trans ht⟩
      · exact ⟨_, step_reject hs hd hi⟩

theorem State.Inv.of_run {k : Nat} {s t : State} (h : s.Inv) (hr : run k s = .next t) : t.Inv := by
  induction k generalizing s with
  | zero => cases hr; exact h
  | succ k ih =>
    rw [run_succ] at hr
    split at hr
    · exact ih (h.of_step ‹_›) hr
    · cases hr
    · cases hr

/-! ## Construction (R35, R102, R103) -/

/-- What INIT makes of a bound block (R35, R102). -/
def State.constructed (c : BusContext) (port : List Word) (mem : Memory) : State where
  cfg := c
  lines := ⟨none, some .high, none, none⟩
  dir := ⟨true, true⟩
  seq := .idle
  eng := Eng.unknown
  raw := Raw.unknown
  ghost := ⟨none⟩
  faults := []
  trace := [.cfg c.dataPort 0xFFFF, .cfg c.controlPort (controlLines c), .cs c.writeStrobeMask]
  port := port
  reqIndex := 0
  mem := mem

theorem init_bound {c : BusContext} (hv : c.valid = true) (port : List Word) (mem : Memory) :
    (State.bound c port mem).init = State.constructed c port mem :=
  congrArg (fun l => { State.constructed c port mem with lines := l })
    (driveHigh_wr hv Lines.unknown)

/-- A block is constructed only over a valid binding, and is then the one above. -/
theorem construct_ok {p : PinDescription} {variant : ControlVariant} {port : List Word}
    {mem : Memory} {s : State} (h : construct p variant port mem = .ok s) :
    (resolve p variant).valid = true ∧ s = State.constructed (resolve p variant) port mem := by
  unfold construct at h
  split at h
  · cases h
  · rename_i c hbind
    unfold bindPins at hbind
    split at hbind
    · cases hbind
    · split at hbind <;> cases hbind
      rename_i hv
      cases h
      exact ⟨hv, init_bound hv port mem⟩

/-- Settles O41. -/
theorem constructionState : Obligations.ConstructionState := by
  intro p variant port mem s h
  obtain ⟨-, rfl⟩ := construct_ok h
  exact ⟨rfl, rfl, rfl, rfl, rfl, rfl, rfl, rfl, rfl, rfl, rfl, rfl⟩

/-- Settles O42. -/
theorem resetIsConstruction : Obligations.ResetIsConstruction := by
  intro port mem
  have hbind : bindPins Config.bootPins .split = .ok Config.bootContext := by decide
  have hv : Config.bootContext.valid = true := by decide
  rw [construct, hbind]
  exact congrArg Except.ok (init_bound hv port mem)

/-- Settles O43: of the three events only the last can be a rise of WR, and WR is unknown before
it. -/
theorem constructionEdgeIsADraw : Obligations.ConstructionEdgeIsADraw := by
  intro draw p variant port mem s h
  obtain ⟨hv, rfl⟩ := construct_ok h
  have hwr := (masksApart hv).wr
  simp [State.constructed, capturesFrom, risingEdge, Lines.after, Lines.unknown, hwr]

theorem constructed_inv {c : BusContext} (hv : c.valid = true) {mem : Memory} (hm : mem.wf = true)
    (port : List Word) : (State.constructed c port mem).Inv where
  valid := hv
  memory := hm
  outputs := rfl
  levels := (driveHigh_wr hv Lines.unknown).symm
  clean := ⟨⟨trivial, nofun⟩, ⟨trivial, nofun⟩, ⟨.inl rfl, nofun⟩, trivial⟩
  sequencer := ⟨rfl, rfl, rfl, ghostOk_none rfl⟩
  records := ⟨.nil, nofun⟩

theorem construct_inv {p : PinDescription} {variant : ControlVariant} {port : List Word}
    {mem : Memory} {s : State} (hm : mem.wf = true) (h : construct p variant port mem = .ok s) :
    s.Inv := by
  obtain ⟨hv, rfl⟩ := construct_ok h
  exact constructed_inv hv hm port

/-- Settles O46. -/
theorem constructionHasInv : Obligations.ConstructionHasInv := fun _ _ _ _ _ hm h =>
  construct_inv hm h

/-- Settles O45: it is a constructed state. -/
theorem resetStateHasInv : Obligations.ResetStateHasInv :=
  construct_inv rfl (resetIsConstruction [] [])

/-- Settles O53: the invariant holds along the run and tells it for IDLE. -/
theorem latchRecordTellsTheLines : Obligations.LatchRecordTellsTheLines := by
  intro p variant port mem s t k v hm hc hrun hidle hv
  obtain ⟨-, -, -, hg⟩ := ((construct_inv hm hc).of_run hrun).sequencer.of_idle hidle
  exact hg v hv

end Sys2Proof.Machine
end

/-! # The registers, the elements, and the addresses the block touches (spec/20_memory.md) -/

section
namespace Sys2Proof.Machine

/-- Settles O14: `DW`, `CS` and `CR` are their event and the line change it means, and each clause
writes that change out. -/
theorem registerWrites : Obligations.RegisterWrites :=
  ⟨fun _ _ => rfl, fun _ _ => rfl, fun _ _ => rfl⟩

/-! ## An element and its two bytes (R57, R67) -/

/-- Side by side is or-ed, the upper part shifted past the lower: the form R57 writes. -/
theorem append_eq_or_shiftLeft {k l : Nat} (hi : BitVec k) (lo : BitVec l) :
    hi ++ lo = lo.setWidth (k + l) ||| hi.setWidth (k + l) <<< l := by
  ext i
  by_cases hlow : i < l
  · simp [BitVec.getElem_append, hlow]
  · simp [BitVec.getElem_append, hlow, BitVec.getLsbD_of_ge lo i (by omega),
      BitVec.getLsbD_eq_getElem (x := hi) (i := i - l) (by omega)]

theorem read16_of_bytes {m : Memory} {a : Nat} {lo hi : Byte} (hlo : m.readByte a = some lo)
    (hhi : m.readByte (a + 1) = some hi) : m.read16 a = some (hi ++ lo) := by
  simp [Memory.read16, hlo, hhi]

theorem read16_eq_none {m : Memory} {a : Nat}
    (h : m.readByte a = none ∨ m.readByte (a + 1) = none) : m.read16 a = none := by
  rw [← Option.not_isSome_iff_eq_none, Memory.read16_isSome]
  rintro ⟨hlo, hhi⟩
  obtain hnone | hnone := h
  · simp [hnone] at hlo
  · simp [hnone] at hhi

/-- Settles O37. -/
theorem elementBytes : Obligations.ElementBytes := fun _ _ =>
  ⟨fun lo hi hlo hhi => append_eq_or_shiftLeft hi lo ▸ read16_of_bytes hlo hhi, read16_eq_none⟩

/-! ## The buffer reads of a step (R50, R57, R182)

The reads of the trace, in order. Only READ of a `RAWXFER` adds one. -/

/-- The event is a buffer read (R32, R57). -/
def Event.isRead : Event → Bool
  | .read _ _ => true
  | _ => false

/-- The buffer reads made so far. -/
def State.reads (s : State) : List Event := s.trace.filter Event.isRead

/-- From `s` to `t` one admitted element of the buffer at `b` is read: that of index `raw.i` (R182). -/
def ReadsElement (b : Word) (s t : State) : Prop :=
  ∃ i v, s.raw.i = some i ∧ s.mem.read16 (elementAddress b i).toNat = some v ∧
    t.reads = s.reads ++ [.read (elementAddress b i) v]

section
variable {s t : State} {m : MicroStep}

theorem reads_of_trace (h : t.trace = s.trace) : t.reads = s.reads := by
  rw [State.reads, h, State.reads]

theorem reads_of_event {e : Event} (h : t.trace = s.trace ++ [e]) (he : e.isRead = false) :
    t.reads = s.reads := by
  simp [State.reads, h, he]

theorem reads_of_read {a : Word} {v : Half} (h : t.trace = s.trace ++ [.read a v]) :
    t.reads = s.reads ++ [.read a v] := by
  simp [State.reads, h, Event.isRead]

theorem transaction_reads {i : Instr} {mode : BusMode} {x : Half} {ending : State → State}
    (hend : ∀ u, (ending u).trace = u.trace) (r : TxStep) :
    (s.transaction i mode x ending r).reads = s.reads := by
  cases r with
  | latch => exact reads_of_event rfl rfl
  | select => exact reads_of_event (select_trace s mode) (by cases mode <;> rfl)
  | strobeLow => exact reads_of_event rfl rfl
  | strobeHigh => exact reads_of_event (hend _) rfl

theorem wrcmdTable_reads {c : Half} (h : s.wrcmdTable c m = .next t) : t.reads = s.reads := by
  unfold State.wrcmdTable at h
  split at h <;> cases h
  exact transaction_reads (by simp) _

theorem wrdataTable_reads {v : Half} (h : s.wrdataTable v m = .next t) : t.reads = s.reads := by
  unfold State.wrdataTable at h
  split at h <;> cases h
  exact transaction_reads (by simp) _

theorem wrcmdpTable_reads {c p : Half} (h : s.wrcmdpTable c p m = .next t) :
    t.reads = s.reads := by
  unfold State.wrcmdpTable at h
  split at h <;> cases h <;> exact transaction_reads (by simp) _

theorem wragainTable_reads {v : Half} (h : s.wragainTable v m = .next t) :
    t.reads = s.reads := by
  unfold State.wragainTable at h
  split at h <;> cases h
  · exact reads_of_trace (by rw [checkWragain_eq]; rfl)
  · exact reads_of_event rfl rfl
  · exact reads_of_event rfl rfl

theorem batchOrDispatch_trace (s : State) (i : Instr) : (s.batchOrDispatch i).trace = s.trace := by
  unfold State.batchOrDispatch
  split <;> rfl

theorem wrmultiTable_reads {n : Word} {v : Half} (h : s.wrmultiTable n v m = .next t) :
    t.reads = s.reads := by
  unfold State.wrmultiTable at h
  split at h <;> cases h
  · exact reads_of_trace (by rw [checkWrmulti_eq]; rfl)
  · exact reads_of_trace (batchOrDispatch_trace _ _)
  · exact reads_of_event rfl rfl
  · exact reads_of_event rfl rfl
  · exact reads_of_trace (batchOrDispatch_trace _ _)
  · exact reads_of_trace rfl
  · exact reads_of_event rfl rfl
  · exact reads_of_event rfl rfl
  · exact reads_of_trace rfl

theorem resetTable_reads (h : s.resetTable m = .next t) : t.reads = s.reads := by
  unfold State.resetTable at h
  split at h <;> cases h
  · exact reads_of_event rfl rfl
  · exact reads_of_event rfl rfl
  · exact reads_of_event rfl rfl
  · exact reads_of_event rfl rfl
  · exact reads_of_event rfl rfl
  · exact reads_of_event rfl rfl
  · exact reads_of_event rfl rfl

theorem rawxferCheck_trace (s : State) (b n : Word) : (s.rawxferCheck b n).trace = s.trace := by
  unfold State.rawxferCheck
  split
  · split <;> rfl
  · rfl

theorem rawxferNext_trace (s : State) (b n i : Word) (x : Half) :
    (s.rawxferNext b n i x).trace = s.trace := by
  unfold State.rawxferNext
  split <;> rfl

theorem rawxferRead_reads {b n : Word} (h : s.rawxferRead b n = .next t) : ReadsElement b s t := by
  unfold State.rawxferRead at h
  split at h
  · cases h
  · rename_i i hi
    split at h <;> cases h
    exact ⟨i, _, hi, ‹_›, reads_of_read rfl⟩

theorem rawxferTable_reads {b n : Word} (h : s.rawxferTable b n m = .next t) :
    t.reads = s.reads ∨ (m = .read ∧ ReadsElement b s t) := by
  unfold State.rawxferTable at h
  split at h
  · cases h; exact .inl (reads_of_trace (rawxferCheck_trace s b n))
  · exact .inr ⟨rfl, rawxferRead_reads h⟩
  · unfold State.rawxferTx at h
    split at h <;> cases h
    exact .inl (transaction_reads (fun u => rawxferNext_trace u _ _ _ _) _)
  · cases h

/-- A row of a table reads nothing, or is the READ of a `RAWXFER`. -/
theorem tableOf_reads {i : Instr} (h : tableOf s i m = .next t) :
    t.reads = s.reads ∨ ∃ b n, i = .rawxfer b n ∧ m = .read ∧ ReadsElement b s t := by
  cases i with
  | wrcmd c => exact .inl (wrcmdTable_reads h)
  | wrdata v => exact .inl (wrdataTable_reads h)
  | wrcmdp c p => exact .inl (wrcmdpTable_reads h)
  | wragain v => exact .inl (wragainTable_reads h)
  | wrmulti n v => exact .inl (wrmultiTable_reads h)
  | rawxfer b n => exact (rawxferTable_reads h).imp id fun hr => ⟨b, n, rfl, hr⟩
  | reset => exact .inl (resetTable_reads h)

/-- No request begins with READ, so the `RAWXFER` that reads is in flight. -/
theorem exec_reads {i : Instr} (h : exec i s = .next t) :
    t.reads = s.reads ∨ ∃ b n, s.seq = .busy (.rawxfer b n) .read ∧ ReadsElement b s t := by
  obtain ⟨m, hat, htab⟩ := exec_next h
  obtain hsame | ⟨b, n, rfl, rfl, hread⟩ := tableOf_reads htab
  · exact .inl hsame
  · obtain hs | ⟨-, hfirst⟩ := hat
    · exact .inr ⟨b, n, hs, hread⟩
    · cases hfirst

/-- A step reads nothing, or is the READ of the `RAWXFER` in flight (R50). -/
theorem step_reads (h : step s = .next t) :
    t.reads = s.reads ∨ ∃ b n, s.seq = .busy (.rawxfer b n) .read ∧ ReadsElement b s t := by
  cases step_cases h with
  | inFlight i m hs hx => exact exec_reads hx
  | accepted i rest hs hd hx => exact exec_reads (s := s.withPort rest) hx
  | rejected x rest info hs hd hi ht => exact .inl (ht ▸ rfl)
  | waits hs hd ht => exact .inl (ht ▸ rfl)

/-- Under the invariant the element a step reads is one of the buffer of the `RAWXFER` in flight. -/
theorem State.Inv.read_in_buffer {a : Word} {v : Half} (hinv : s.Inv) (h : step s = .next t)
    (he : t.trace = s.trace ++ [.read a v]) :
    ∃ b n i, s.seq = .busy (.rawxfer b n) .read ∧ i.toNat < n.toNat ∧ a = elementAddress b i := by
  have hadd := reads_of_read he
  obtain hsame | ⟨b, n, hs, i, w, hi, -, hread⟩ := step_reads h
  · simp [hsame] at hadd
  · obtain ⟨-, -, -, -, j, hj, hlt⟩ := hinv.sequencer.of_busy hs
    obtain rfl : i = j := Option.some.inj (hi.symm.trans hj)
    obtain ⟨rfl, rfl⟩ : elementAddress b i = a ∧ w = v := by simpa [hread] using hadd
    exact ⟨b, n, i, hs, hlt, rfl⟩

end

/-- Settles O35: a write is of one of the three registers by its event alone; a read is of the buffer
in flight. -/
theorem onlyItsAddresses : Obligations.OnlyItsAddresses := by
  intro s t e x hinv hstep he hx
  cases e with
  | dw v => cases hx; exact .inl ⟨v, rfl⟩
  | cs m => cases hx; exact .inr (.inl ⟨m, rfl⟩)
  | cr m => cases hx; exact .inr (.inr (.inl ⟨m, rfl⟩))
  | read a v =>
    cases hx
    obtain ⟨b, n, i, hs, hlt, rfl⟩ := hinv.read_in_buffer hstep he
    exact .inr (.inr (.inr ⟨b, n, i.toNat, v, hs, hlt, by simp [elementAddress]⟩))
  | cfg p m => cases hx
  | delay n => cases hx

end Sys2Proof.Machine
end

/-! # Reading and writing requests (spec/30_encoding.md) -/

section
namespace Sys2Proof
open Machine

/-! ## From the fields back to the word (R71, R72, R79) -/

/-- A header with its reserved field 0 is the word of its opcode and its operand. -/
theorem headerWord_of_fields {h : Word} {n : Nat} (hop : (opcodeOf h).toNat = n)
    (hres : reservedOf h = 0) : headerWord (BitVec.ofNat 4 n) (imm16Of h) = h := by
  subst hop
  rw [BitVec.ofNat_toNat, BitVec.setWidth_eq]
  refine BitVec.eq_of_getLsbD_eq fun i hi => ?_
  have hmid := congrArg (·.getLsbD (i - 16)) hres
  simp only [reservedOf, BitVec.getLsbD_extractLsb', BitVec.ofNat_eq_ofNat, BitVec.getLsbD_zero]
    at hmid
  rw [getLsbD_headerWord]
  split
  · simp [imm16Of, *]
  · split
    · simpa [show i - 16 < 12 by omega, show 16 + (i - 16) = i by omega] using hmid.symm
    · simp [opcodeOf, show i - 28 < 4 by omega, show 28 + (i - 28) = i by omega]

/-- An extension word of a `WRCMDP` with its reserved half 0 is the word of its parameter. -/
theorem paramWord_of_fields {e : Word} (hres : paramReservedOf e = 0) :
    0#16 ++ param16Of e = e := by
  refine BitVec.eq_of_getLsbD_eq fun i hi => ?_
  have hhigh := congrArg (·.getLsbD (i - 16)) hres
  simp only [paramReservedOf, BitVec.getLsbD_extractLsb', BitVec.ofNat_eq_ofNat,
    BitVec.getLsbD_zero] at hhigh
  rw [getLsbD_paramWord]
  by_cases hlow : i < 16
  · simp [param16Of, hlow]
  · simpa [hlow, show i - 16 < 16 by omega, show 16 + (i - 16) = i by omega] using hhigh.symm

/-! ## Requests and their words (R75, R79) -/

theorem checkedItem_eq_request {h : Word} {b : Bool} {i j : Instr} {ws rest : List Word} :
    checkedItem h b i ws = (.request j, rest) ↔ b = true ∧ i = j ∧ ws = rest := by
  cases b <;> simp [checkedItem]

/-- Settles O2: request by request, the opcode written is the one read, the fields written are the
operands, and the reserved bits written are 0. -/
theorem decodeOfEncode : Obligations.DecodeOfEncode := by
  intro i rest
  cases i with
  | wrcmdp cmd param =>
    simp [encode, decodeFront, checkedItem, opcodeOf_headerWord, reservedOf_headerWord,
      imm16Of_headerWord, paramReservedOf_paramWord, param16Of_paramWord]
  | _ =>
    simp [encode, decodeFront, checkedItem, opcodeOf_headerWord, reservedOf_headerWord,
      imm16Of_headerWord]

/-- Settles O3: the opcode tells which request it is, and where the reserved bits are 0 the fields
are the whole word. -/
theorem oneEncodingPerRequest : Obligations.OneEncodingPerRequest := by
  intro ws rest i hdec
  cases ws with
  | nil => cases hdec
  | cons h ws =>
    simp only [decodeFront, Option.some.injEq] at hdec
    split at hdec
    case h_1 hop | h_2 hop | h_4 hop =>
      obtain ⟨hres, rfl, rfl⟩ := checkedItem_eq_request.mp hdec
      simp [encode, headerWord_of_fields hop (beq_iff_eq.mp hres)]
    case h_3 hop =>
      split at hdec
      · obtain ⟨hres, rfl, rfl⟩ := checkedItem_eq_request.mp hdec
        obtain ⟨hres, hparam⟩ : _ = _ ∧ paramReservedOf _ = 0 := by simpa using hres
        simp [encode, headerWord_of_fields hop hres, paramWord_of_fields hparam]
      · cases hdec
    case h_5 hop =>
      split at hdec
      · obtain ⟨hres, rfl, rfl⟩ := checkedItem_eq_request.mp hdec
        simp [encode, headerWord_of_fields hop (beq_iff_eq.mp hres)]
      · cases hdec
    case h_6 hop =>
      split at hdec
      · obtain ⟨hres, rfl, rfl⟩ := checkedItem_eq_request.mp hdec
        obtain ⟨hres, himm⟩ : reservedOf h = 0 ∧ imm16Of h = 0 := by simpa using hres
        simp [encode, ← himm, headerWord_of_fields hop hres]
      · cases hdec
    case h_7 hop =>
      obtain ⟨hres, rfl, rfl⟩ := checkedItem_eq_request.mp hdec
      obtain ⟨hres, himm⟩ : reservedOf h = 0 ∧ imm16Of h = 0 := by simpa using hres
      simp [encode, ← himm, headerWord_of_fields hop hres]
    case h_8 => cases hdec

/-! ## Streams (R80) -/

/-- As many rounds as the stream has words are enough. -/
theorem decodeWithin_of_length_le {m n : Nat} {ws : List Word} (hm : ws.length ≤ m)
    (hn : ws.length ≤ n) : decodeWithin m ws = decodeWithin n ws := by
  induction m generalizing n ws with
  | zero =>
    obtain rfl : ws = [] := List.length_eq_zero_iff.mp (Nat.le_zero.mp hm)
    cases n <;> rfl
  | succ m ih =>
    cases n with
    | zero =>
      obtain rfl : ws = [] := List.length_eq_zero_iff.mp (Nat.le_zero.mp hn)
      rfl
    | succ n =>
      rw [decodeWithin, decodeWithin]
      rcases hd : decodeFront ws with _ | ⟨x, rest⟩
      · rfl
      · have hlt := decodeFront_rest_lt hd
        exact congrArg (x :: ·) (ih (by omega) (by omega))

theorem decodeStream_of_decodeFront {ws rest : List Word} {x : Item}
    (hd : decodeFront ws = some (x, rest)) : decodeStream ws = x :: decodeStream rest := by
  have hlt := decodeFront_rest_lt hd
  obtain ⟨n, hn⟩ : ∃ n, ws.length = n + 1 := Nat.exists_eq_add_one.mpr (by omega)
  rw [decodeStream, hn, decodeWithin, hd]
  exact congrArg (x :: ·) (decodeWithin_of_length_le (by omega) le_rfl)

theorem decodeStream_encode (is : List Instr) :
    decodeStream (is.flatMap encode) = is.map Item.request := by
  induction is with
  | nil => rfl
  | cons i is ih =>
    rw [List.flatMap_cons, decodeStream_of_decodeFront (decodeOfEncode i _), ih, List.map_cons]

/-- Settles O4. -/
theorem streamDecodesItemByItem : Obligations.StreamDecodesItemByItem :=
  ⟨rfl, fun _ _ _ hd => decodeStream_of_decodeFront hd, decodeStream_encode⟩

/-- Settles O1: each word is given, so the decoder computes its item. -/
theorem specWordsDecode : Obligations.SpecWordsDecode :=
  ⟨by decide, by decide, by decide, by decide, by decide, by decide, by decide, by decide,
    by decide, by decide⟩

/-! ## Words that are no request (R76, R77, R78) -/

theorem decodeFront_reservedOpcode {h : Word} (rest : List Word)
    (hop : (opcodeOf h).toNat = 0 ∨ 8 ≤ (opcodeOf h).toNat) :
    decodeFront (h :: rest) = some (.illegalOpcode h, rest) := by
  simp only [decodeFront]
  split
  case h_8 => rfl
  all_goals omega

theorem decodeFront_incomplete {h : Word} {ext : List Word} (hpos : 1 ≤ (opcodeOf h).toNat)
    (hle : (opcodeOf h).toNat ≤ 7) (hlen : ext.length + 1 < requestLength (opcodeOf h)) :
    decodeFront (h :: ext) = some (.incomplete h, []) := by
  simp only [decodeFront]
  split
  case h_1 hop | h_2 hop | h_4 hop | h_7 hop => simp [requestLength, hop] at hlen
  case h_3 hop | h_5 hop =>
    obtain rfl : ext = [] := by simpa [requestLength, hop] using hlen
    rfl
  case h_6 hop =>
    replace hlen : ext.length + 1 < 3 := by simpa [requestLength, hop] using hlen
    match ext with
    | [] | [_] => rfl
    | _ :: _ :: _ => simp +arith at hlen
  case h_8 => simp only [imp_false] at *; omega

theorem checkedItem_reserved {h : Word} {b : Bool} (i : Instr) (ws : List Word) (hb : b = false) :
    checkedItem h b i ws = (.illegalReserved h, ws) := by
  rw [checkedItem, hb]; rfl

/-- The three places of R77 where a bit has to be 0. -/
def ReservedBitSet (h : Word) (ext : List Word) : Prop :=
  reservedOf h ≠ 0 ∨ ((opcodeOf h = 6 ∨ opcodeOf h = 7) ∧ imm16Of h ≠ 0) ∨
    (opcodeOf h = 3 ∧ ∃ e ∈ ext, paramReservedOf e ≠ 0)

theorem decodeFront_reservedBits {h : Word} {ext : List Word} (rest : List Word)
    (hpos : 1 ≤ (opcodeOf h).toNat) (hle : (opcodeOf h).toNat ≤ 7)
    (hlen : ext.length + 1 = requestLength (opcodeOf h)) (hbits : ReservedBitSet h ext) :
    decodeFront (h :: ext ++ rest) = some (.illegalReserved h, rest) := by
  simp only [ReservedBitSet, BitVec.toNat_eq] at hbits
  simp only [List.cons_append, decodeFront]
  split
  case h_1 hop | h_2 hop | h_4 hop =>
    obtain rfl : ext = [] := by simpa [requestLength, hop] using hlen
    rw [List.nil_append, checkedItem_reserved]
    simpa [hop] using hbits
  case h_3 hop =>
    obtain ⟨e1, rfl⟩ : ∃ e1, ext = [e1] := by
      simpa [requestLength, hop, List.length_eq_one_iff] using hlen
    refine congrArg some (checkedItem_reserved _ _ ?_)
    simpa [hop, imp_iff_not_or] using hbits
  case h_5 hop =>
    obtain ⟨e1, rfl⟩ : ∃ e1, ext = [e1] := by
      simpa [requestLength, hop, List.length_eq_one_iff] using hlen
    refine congrArg some (checkedItem_reserved _ _ ?_)
    simpa [hop] using hbits
  case h_6 hop =>
    obtain ⟨e1, e2, rfl⟩ : ∃ e1 e2, ext = [e1, e2] := by
      simpa [requestLength, hop, List.length_eq_two] using hlen
    refine congrArg some (checkedItem_reserved _ _ ?_)
    simpa [hop, imp_iff_not_or] using hbits
  case h_7 hop =>
    obtain rfl : ext = [] := by simpa [requestLength, hop] using hlen
    refine congrArg some (checkedItem_reserved _ _ ?_)
    simpa [hop, imp_iff_not_or] using hbits
  case h_8 => simp only [imp_false] at *; omega

/-! ## Rejected words take one step -/

/-- A rejected item leaves the port and a record, and the block IDLE as it was (R203). -/
theorem step_reject_eq {s : State} {x : Item} {rest : List Word} {info : FaultInfo}
    (hs : s.seq = .idle) (hd : decodeFront s.port = some (x, rest))
    (hi : rejection x = some info) :
    step s = .next { s with
      port := rest, reqIndex := s.reqIndex + 1
      faults := s.faults ++ [⟨s.reqIndex, info⟩] } := by
  rw [step_reject hs hd hi, State.rejectRequest, State.finish, ← hs]; rfl

/-- Settles O5. -/
theorem reservedOpcodeRejected : Obligations.ReservedOpcodeRejected := by
  intro s h rest hs hp hop
  exact step_reject_eq hs (hp ▸ decodeFront_reservedOpcode rest hop) rfl

/-- Settles O6. -/
theorem reservedBitsRejected : Obligations.ReservedBitsRejected := by
  intro s h ext rest hs hp hpos hle hlen hbits
  exact step_reject_eq hs (hp ▸ decodeFront_reservedBits rest hpos hle hlen hbits) rfl

/-- Settles O7. -/
theorem incompleteRejected : Obligations.IncompleteRejected := by
  intro s h ext hs hp hpos hle hlen
  exact step_reject_eq hs (hp ▸ decodeFront_incomplete hpos hle hlen) rfl

end Sys2Proof
end

/-! # How many steps are left (R231), and the end of every run (R233) -/

section
namespace Sys2Proof.Machine

/-! ## The steps a request still takes -/

/-- A register as a number; an unknown one as 0, which no micro-step of the invariant reads. -/
def regNat {w : Nat} (r : Option (BitVec w)) : Nat := (r.map BitVec.toNat).getD 0

@[simp] theorem regNat_some {w : Nat} (v : BitVec w) : regNat (some v) = v.toNat := rfl

/-- The rows of a transaction from this one on (R140). -/
def TxStep.rowsLeft : TxStep → Nat
  | .latch => 4
  | .select => 3
  | .strobeLow => 2
  | .strobeHigh => 1

/-- The steps of `WRMULTI` from the branch on, with `r` pulses still to emit: two for each pulse,
the batch test of each batch, the dispatch and DONE (R161). -/
def stepsOfPulses (r : Nat) : Nat := 2 * r + r / 40 + 2

/-- The steps of `WRMULTI(n, _)` from each micro-step on (R161). -/
def Eng.stepsAt (n : Word) (e : Eng) : MicroStep → Nat
  | .check => 2 + stepsOfPulses n.toNat
  | .entryTest => 1 + stepsOfPulses (regNat e.rem)
  | .batchLow => 2 * (40 - regNat e.k) + 1 + stepsOfPulses (regNat e.rem - 40)
  | .batchHigh => 2 * (40 - regNat e.k) + stepsOfPulses (regNat e.rem - 40)
  | .batchTest => 1 + stepsOfPulses (regNat e.rem - 40)
  | .dispatch => stepsOfPulses (regNat e.rem)
  | .tailLow => 2 * (39 - regNat e.j) + 1
  | .tailHigh => 2 * (39 - regNat e.j)
  | .done => 1
  | _ => 0

/-- The steps of `RAWXFER(b, n)` from each micro-step on (R182). -/
def State.rawStepsAt (s : State) (b n : Word) : MicroStep → Nat
  | .check => if s.rawxferOk b n then 1 + 5 * n.toNat else 1
  | .read => 5 * (n.toNat - regNat s.raw.i)
  | .tx _ r => r.rowsLeft + 5 * (n.toNat - (regNat s.raw.i + 1))
  | _ => 0

/-- The steps of `RESET` from each micro-step on (R121). -/
def resetStepsAt : MicroStep → Nat
  | .rstSettle => 7
  | .rstHigh => 6
  | .rstHighWait => 5
  | .rstAssert => 4
  | .rstAssertWait => 3
  | .rstRelease => 2
  | .rstReleaseWait => 1
  | _ => 0

/-- The steps a request takes from the micro-step `m` on, that one included (R231). -/
def State.stepsAt (s : State) (m : MicroStep) : Instr → Nat
  | .wrcmd _ => match m with | .tx _ r => r.rowsLeft | _ => 0
  | .wrdata _ => match m with | .tx _ r => r.rowsLeft | _ => 0
  | .wrcmdp _ _ =>
    match m with
    | .tx .command r => r.rowsLeft + 4
    | .tx .data r => r.rowsLeft
    | _ => 0
  | .wragain _ => match m with | .check => 3 | .tx _ r => r.rowsLeft | _ => 0
  | .wrmulti n _ => s.eng.stepsAt n m
  | .rawxfer b n => s.rawStepsAt b n m
  | .reset => resetStepsAt m

/-- The steps until the block is IDLE. -/
def State.stepsLeft (s : State) : Nat :=
  match s.seq with
  | .idle => 0
  | .busy i m => s.stepsAt m i

/-- From its first micro-step on a request takes the steps of R231. -/
theorem stepsAt_firstStep (s : State) (i : Instr) : s.stepsAt (firstStep i) i = s.stepsOf i := by
  cases i with
  | wrmulti n v =>
    simp only [State.stepsAt, firstStep, Eng.stepsAt, stepsOfPulses, State.stepsOf]
    omega
  | _ => rfl

section
variable {s : State}

theorem stepsLeft_idle (hs : s.seq = .idle) : s.stepsLeft = 0 := by rw [State.stepsLeft, hs]

theorem stepsLeft_busy {i : Instr} {m : MicroStep} (hs : s.seq = .busy i m) :
    s.stepsLeft = s.stepsAt m i := by rw [State.stepsLeft, hs]

@[simp] theorem stepsLeft_goto (i : Instr) (m : MicroStep) :
    (s.goto i m).stepsLeft = s.stepsAt m i := by cases i <;> rfl

@[simp] theorem stepsLeft_finish : s.finish.stepsLeft = 0 := rfl

/-! ## Every row takes one of them -/

/-- The rows of a transaction, after which the request takes `k` steps more. -/
theorem transaction_stepsLeft {i : Instr} {mode : BusMode} {x : Half} {ending : State → State}
    {k : Nat} (hrows : ∀ (u : State) (r : TxStep), u.raw = s.raw →
      u.stepsAt (.tx mode r) i = r.rowsLeft + k)
    (hend : (ending s.strobeHigh).stepsLeft = k) (r : TxStep) :
    (s.transaction i mode x ending r).stepsLeft + 1 = s.stepsAt (.tx mode r) i := by
  rw [hrows s r rfl]
  cases r with
  | latch =>
    rw [State.transaction, stepsLeft_goto, hrows (s.dw x) _ rfl]
    simp only [TxStep.rowsLeft]; omega
  | select =>
    rw [State.transaction, stepsLeft_goto, hrows _ _ (State.select_raw s mode)]
    simp only [TxStep.rowsLeft]; omega
  | strobeLow =>
    rw [State.transaction, stepsLeft_goto, hrows s.strobeLow _ rfl]
    simp only [TxStep.rowsLeft]; omega
  | strobeHigh => rw [State.transaction, hend, TxStep.rowsLeft, Nat.add_comm]

variable {t : State} {m : MicroStep}

theorem wrcmdTable_stepsLeft {c : Half} (h : s.wrcmdTable c m = .next t) :
    t.stepsLeft + 1 = s.stepsAt m (.wrcmd c) := by
  unfold State.wrcmdTable at h
  split at h <;> cases h
  exact transaction_stepsLeft (fun _ _ _ => rfl) rfl _

theorem wrdataTable_stepsLeft {v : Half} (h : s.wrdataTable v m = .next t) :
    t.stepsLeft + 1 = s.stepsAt m (.wrdata v) := by
  unfold State.wrdataTable at h
  split at h <;> cases h
  exact transaction_stepsLeft (fun _ _ _ => rfl) rfl _

theorem wrcmdpTable_stepsLeft {c p : Half} (h : s.wrcmdpTable c p m = .next t) :
    t.stepsLeft + 1 = s.stepsAt m (.wrcmdp c p) := by
  unfold State.wrcmdpTable at h
  split at h <;> cases h
  · exact transaction_stepsLeft (fun _ _ _ => rfl) rfl _
  · exact transaction_stepsLeft (fun _ _ _ => rfl) rfl _

theorem wragainTable_stepsLeft {v : Half} (h : s.wragainTable v m = .next t) :
    t.stepsLeft + 1 = s.stepsAt m (.wragain v) := by
  unfold State.wragainTable at h
  split at h <;> cases h <;> rfl

/-- Both branches of the entry test and of the batch test (R163, R165). -/
theorem batchOrDispatch_stepsLeft {n r : Word} {v : Half} (hr : s.eng.rem = some r) :
    (s.batchOrDispatch (.wrmulti n v)).stepsLeft = stepsOfPulses r.toNat := by
  rw [batchOrDispatch_eq _ hr]
  split
  · rw [State.enterBatch, stepsLeft_goto]
    simp only [State.stepsAt, Eng.stepsAt, hr, regNat_some, stepsOfPulses,
      show (0 : BitVec 6).toNat = 0 from rfl]
    omega
  · rw [stepsLeft_goto]
    simp only [State.stepsAt, Eng.stepsAt, hr, regNat_some]

theorem wrmultiTable_stepsLeft {n : Word} {v : Half} (hok : s.eng.Ok n m)
    (h : s.wrmultiTable n v m = .next t) : t.stepsLeft + 1 = s.stepsAt m (.wrmulti n v) := by
  cases m with
  | check =>
    cases h
    simp only [stepsLeft_goto, State.stepsAt, Eng.stepsAt, State.loadCount_eng, regNat_some]
    omega
  | entryTest =>
    cases h
    rw [batchOrDispatch_stepsLeft hok, State.stepsAt, Eng.stepsAt, hok, regNat_some, Nat.add_comm]
  | batchLow =>
    cases h
    simp only [stepsLeft_goto, State.stepsAt, Eng.stepsAt, State.strobeLow_eng]
    omega
  | batchHigh =>
    obtain ⟨r, k, hr, hk, hr40, hk40⟩ := hok
    have hsucc := index_succ_toNat (j := k) (by omega)
    cases h
    rw [nextInBatch_eq (s := s.strobeHigh) _ hk, stepsLeft_goto]
    split <;>
      simp only [State.stepsAt, Eng.stepsAt, State.strobeHigh_eng, hk, regNat_some, hsucc] <;> omega
  | batchTest =>
    obtain ⟨r, hr, -, hr40⟩ := hok
    cases h
    have hrem : (r - 40).toNat = r.toNat - 40 := takeBatch_toNat hr40
    rw [batchOrDispatch_stepsLeft (r := r - 40) (by simp [hr, Config.batch]), hrem, State.stepsAt,
      Eng.stepsAt, hr, regNat_some, Nat.add_comm]
  | dispatch =>
    obtain ⟨r, hr, hr40⟩ := hok
    have hentry := tailEntry_toNat (r := r) (by omega)
    cases h
    rw [enterTail_eq _ hr, stepsLeft_goto]
    split <;> simp only [State.stepsAt, Eng.stepsAt, hr, regNat_some, stepsOfPulses] <;> omega
  | tailLow => cases h; rfl
  | tailHigh =>
    obtain ⟨r, n, j, -, -, hj, -, -, hj39⟩ := hok
    have hsucc := index_succ_toNat (j := j) (by omega)
    cases h
    rw [nextInTail_eq (s := s.strobeHigh) _ hj, stepsLeft_goto]
    split <;> simp only [State.stepsAt, Eng.stepsAt, hj, regNat_some, hsucc] <;> omega
  | done => cases h; rfl
  | _ => cases h

theorem rawxferCheck_stepsLeft (b n : Word) :
    (s.rawxferCheck b n).stepsLeft + 1 = s.stepsAt .check (.rawxfer b n) := by
  rw [State.rawxferCheck, State.stepsAt, State.rawStepsAt]
  split
  · split
    · simp [*]
    · simp [State.stepsAt, State.rawStepsAt]; omega
  · rfl

/-- The index of another element does not wrap. -/
theorem element_succ_toNat {i n : Word} (h : i.toNat + 1 < n.toNat) :
    (i + 1).toNat = i.toNat + 1 := by
  rw [BitVec.toNat_add, show (1 : Word).toNat = 1 from rfl]; omega

theorem rawxferNext_stepsLeft {b n i : Word} (hlt : i.toNat < n.toNat) (x : Half) :
    (s.rawxferNext b n i x).stepsLeft = 5 * (n.toNat - (i.toNat + 1)) := by
  unfold State.rawxferNext
  split
  · simp only [stepsLeft_goto, State.stepsAt, State.rawStepsAt, State.rawIndex_raw, regNat_some,
      element_succ_toNat ‹_›]
  · rw [stepsLeft_finish]; omega

theorem rawxferTable_stepsLeft {b n : Word} (hok : s.RawOk b n m)
    (h : s.rawxferTable b n m = .next t) : t.stepsLeft + 1 = s.stepsAt m (.rawxfer b n) := by
  cases m with
  | check => cases h; exact rawxferCheck_stepsLeft b n
  | read =>
    obtain ⟨hb, i, hi, hlt⟩ := hok
    obtain ⟨x, hx⟩ := bufferOK_read hb hlt
    cases (rawxferRead_some hi hx).symm.trans h
    simp only [stepsLeft_goto, State.stepsAt, State.rawStepsAt, State.readElement_raw, hi,
      regNat_some, TxStep.rowsLeft]
    omega
  | tx mode r =>
    cases mode with
    | command => exact hok.elim
    | data =>
      obtain ⟨-, i, x, hi, hlt, hword, -, -⟩ := hok
      cases (rawxferTx_some hi hword r).symm.trans h
      refine transaction_stepsLeft (k := 5 * (n.toNat - (i.toNat + 1))) (fun u r' hu => ?_)
        (rawxferNext_stepsLeft hlt x) r
      rw [State.stepsAt, State.rawStepsAt, hu, hi, regNat_some]
  | _ => exact hok.elim

theorem resetTable_stepsLeft (h : s.resetTable m = .next t) :
    t.stepsLeft + 1 = s.stepsAt m .reset := by
  unfold State.resetTable at h
  split at h <;> cases h <;> rfl

/-- Where the registers agree with the table, a row of it is one of the steps left. -/
theorem tableOf_stepsLeft {i : Instr} (hok : s.StepOk m i) (h : tableOf s i m = .next t) :
    t.stepsLeft + 1 = s.stepsAt m i := by
  cases i with
  | wrcmd c => exact wrcmdTable_stepsLeft h
  | wrdata v => exact wrdataTable_stepsLeft h
  | wrcmdp c p => exact wrcmdpTable_stepsLeft h
  | wragain v => exact wragainTable_stepsLeft h
  | wrmulti n v =>
    obtain ⟨-, -, heng⟩ := hok
    exact wrmultiTable_stepsLeft heng h
  | rawxfer b n =>
    obtain ⟨-, -, hraw⟩ := hok
    exact rawxferTable_stepsLeft hraw h
  | reset => exact resetTable_stepsLeft h

/-- In a state of the invariant every micro-step of a request takes one of its steps. -/
theorem State.Inv.exec_stepsLeft {i : Instr} (h : s.Inv) (hat : s.AtStep i m)
    (hx : exec i s = .next t) : t.stepsLeft + 1 = s.stepsAt m i := by
  obtain ⟨-, hok⟩ := h.sequencer.at hat
  exact tableOf_stepsLeft hok ((exec_at hat).symm.trans hx)

end

/-! ## Runs from one state to another -/

/-- Some steps of the block lead from `s` to `t`. -/
def Reaches (s t : State) : Prop := ∃ k, run k s = .next t

section
variable {s t u : State}

theorem Reaches.refl (s : State) : Reaches s s := ⟨0, rfl⟩

theorem run_of_step (hstep : step s = .next u) (k : Nat) : run (k + 1) s = run k u := by
  rw [run_succ, hstep]

theorem run_append {j : Nat} (hrun : run j s = .next u) (k : Nat) : run (j + k) s = run k u := by
  rw [run_add, hrun]

theorem Reaches.head (hstep : step s = .next u) (hr : Reaches u t) : Reaches s t := by
  obtain ⟨k, hk⟩ := hr
  exact ⟨k + 1, (run_of_step hstep k).trans hk⟩

theorem Reaches.trans (h₁ : Reaches s u) (h₂ : Reaches u t) : Reaches s t := by
  obtain ⟨j, hj⟩ := h₁
  obtain ⟨k, hk⟩ := h₂
  exact ⟨j + k, (run_append hj k).trans hk⟩

theorem step_row {i : Instr} {m : MicroStep} (hs : s.seq = .busy i m)
    (h : tableOf s i m = .next t) : step s = .next t :=
  (step_busy hs).trans ((exec_at (.inl hs)).trans h)

/-! ## Every request ends, and so every stream -/

/-- The request in flight ends after the steps left, and takes no more words off the port. -/
theorem State.Inv.run_stepsLeft (h : s.Inv) :
    ∃ t, run s.stepsLeft s = .next t ∧ t.Inv ∧ t.seq = .idle ∧ t.port = s.port := by
  generalize hn : s.stepsLeft = n
  induction n generalizing s with
  | zero =>
    cases hs : s.seq with
    | idle => exact ⟨s, rfl, h, hs, rfl⟩
    | busy i m =>
      obtain ⟨u, hx, -⟩ := h.exec_seqOk (.inl hs)
      have hleft := h.exec_stepsLeft (.inl hs) hx
      rw [← stepsLeft_busy hs] at hleft
      omega
  | succ n ih =>
    cases hs : s.seq with
    | idle => simp [stepsLeft_idle hs] at hn
    | busy i m =>
      obtain ⟨u, hx, -⟩ := h.exec_seqOk (.inl hs)
      have hleft := h.exec_stepsLeft (.inl hs) hx
      rw [← stepsLeft_busy hs] at hleft
      obtain ⟨_, -, hrow⟩ := exec_row hx
      obtain ⟨t, hrun, ht, hidle, hport⟩ := ih (h.of_exec hx) (by omega)
      refine ⟨t, ?_, ht, hidle, hport.trans hrow.port⟩
      rw [run_of_step ((step_busy hs).trans hx), hrun]

theorem decodeFront_eq_none {ws : List Word} : decodeFront ws = none ↔ ws = [] := by
  cases ws <;> simp [decodeFront]

/-- In IDLE with words on the port, a step takes some of them off. -/
theorem State.Inv.step_takes_words (h : s.Inv) (hs : s.seq = .idle) (hp : s.port ≠ []) :
    ∃ t, step s = .next t ∧ t.Inv ∧ t.port.length < s.port.length := by
  obtain ⟨t, hstep⟩ := stepNeverStops s h
  refine ⟨t, hstep, h.of_step hstep, ?_⟩
  cases step_cases hstep with
  | inFlight i m hs' => cases hs.symm.trans hs'
  | accepted i rest _ hd hx =>
    obtain ⟨_, -, hrow⟩ := exec_row hx
    rw [hrow.port]; exact decodeFront_rest_lt hd
  | rejected x rest info _ hd _ ht => subst ht; exact decodeFront_rest_lt hd
  | waits _ hd => exact absurd (decodeFront_eq_none.mp hd) hp

/-- From every state of the invariant the run comes to its end, by the number of words presented. -/
theorem State.Inv.reaches_end (h : s.Inv) : ∃ t, Reaches s t ∧ t.runEnded = true := by
  generalize hn : s.port.length = n
  induction n using Nat.strong_induction_on generalizing s with
  | h n ih =>
    obtain ⟨u, hrun, hu, hidle, hport⟩ := h.run_stepsLeft
    have hsu : Reaches s u := ⟨_, hrun⟩
    by_cases hp : u.port = []
    · exact ⟨u, hsu, by simp [State.runEnded, hp, hidle]⟩
    · obtain ⟨v, hstep, hv, hlt⟩ := hu.step_takes_words hidle hp
      obtain ⟨t, hvt, hend⟩ := ih _ (by rw [← hn, ← hport]; exact hlt) hv rfl
      exact ⟨t, hsu.trans (.head hstep hvt), hend⟩

end

/-- Settles O56: the request in flight ends, and every item of the port takes words off it. -/
theorem everyStreamEnds : Obligations.EveryStreamEnds := by
  intro s h
  obtain ⟨t, ⟨k, hrun⟩, hend⟩ := h.reaches_end
  exact ⟨k, t, hrun, hend⟩

end Sys2Proof.Machine
end

/-! # A request served from beginning to end -/

section
namespace Sys2Proof.Machine

/-! ## Serving a request, and runs (R27, R70) -/

section
variable {s t u : State} {i : Instr}

theorem serve_of_exec (hx : exec i s = .next u) (k : Nat) : s.serve i (k + 1) = run k u := by
  rw [State.serve, hx]; rfl

theorem serve_of_reaches (hx : exec i s = .next u) (hr : Reaches u t) :
    ∃ k, s.serve i k = .next t := by
  obtain ⟨k, hk⟩ := hr
  exact ⟨k + 1, (serve_of_exec hx k).trans hk⟩

theorem serve_append {j : Nat} (h : s.serve i (j + 1) = .next u) (k : Nat) :
    s.serve i (j + 1 + k) = run k u := by
  unfold State.serve at h ⊢
  split at h
  · rw [show j + 1 + k - 1 = j + k by omega]; exact run_append h k
  · cases h
  · cases h

theorem run_row {m : MicroStep} (hs : s.seq = .busy i m) (hx : exec i s = .next u) (k : Nat) :
    run (k + 1) s = run k u :=
  run_of_step ((step_busy hs).trans hx) k

/-- A request in flight is served by the steps of the block. -/
theorem run_busy {m : MicroStep} (hs : s.seq = .busy i m) (k : Nat) :
    run (k + 1) s = s.serve i (k + 1) := by
  rw [run_succ, step_busy hs]; rfl

/-- So is a request at the front of the port in IDLE, which is taken off it (R70). -/
theorem run_encode {rest : List Word} (hs : s.seq = .idle) (hp : s.port = encode i ++ rest)
    (k : Nat) : run (k + 1) s = (s.withPort rest).serve i (k + 1) := by
  rw [run_succ, step_accept hs (hp ▸ decodeOfEncode i rest)]; rfl

theorem run_of_serve {rest : List Word} {k : Nat} (hs : s.seq = .idle)
    (hp : s.port = encode i ++ rest) (h : (s.withPort rest).serve i (k + 1) = .next t) :
    run (k + 1) s = .next t := (run_encode hs hp k).trans h

theorem reaches_of_serve {rest : List Word} {k : Nat} (hs : s.seq = .idle)
    (hp : s.port = encode i ++ rest) (h : (s.withPort rest).serve i k = .next t) : Reaches s t :=
  ⟨k - 1 + 1, run_of_serve hs hp h⟩

end

/-! ## A transaction, whole (R140) -/

/-- `s` after the four rows of a transaction of `x`, IDLE. -/
def State.transferred (s : State) (mode : BusMode) (x : Half) : State :=
  { s with
    lines := { s.lines with d := some x, rs := some mode.level, wr := some .high }
    trace := s.trace ++ transactionEvents s.cfg mode x
    seq := .idle }

/-- The four rows of a transaction, one after the other. -/
theorem serve_transaction {s : State} {i : Instr} {mode : BusMode} {x : Half}
    {ended : State → State}
    (hrows : ∀ l tr q,
      TransactionRows { s with lines := l, trace := tr, seq := q } i mode x ended)
    (hat : s.AtStep i (.tx mode .latch)) : s.serve i 4 = .next (ended (s.transferred mode x)) := by
  obtain ⟨hlatch, -, -, -⟩ := hrows s.lines s.trace s.seq
  obtain ⟨-, hselect, -, -⟩ := hrows { s.lines with d := some x } (s.trace ++ [.dw x])
    (.busy i (.tx mode .select))
  obtain ⟨-, -, hlow, -⟩ := hrows { s.lines with d := some x, rs := some mode.level }
    (s.trace ++ [.dw x] ++ [selectEvent s.cfg mode]) (.busy i (.tx mode .strobeLow))
  obtain ⟨-, -, -, hhigh⟩ := hrows
    { s.lines with d := some x, rs := some mode.level, wr := some .low }
    (s.trace ++ [.dw x] ++ [selectEvent s.cfg mode] ++ [.cr s.cfg.writeStrobeMask])
    (.busy i (.tx mode .strobeHigh))
  have htrace : s.trace ++ transactionEvents s.cfg mode x = s.trace ++ [.dw x] ++
      [selectEvent s.cfg mode] ++ [.cr s.cfg.writeStrobeMask] ++ [.cs s.cfg.writeStrobeMask] := by
    cases mode <;> simp [transactionEvents, selectEvent, pulse]
  rw [State.transferred, htrace]
  exact (serve_of_exec (hlatch hat) 3).trans <| (run_row rfl (hselect (.inl rfl)) 2).trans <|
    (run_row rfl (hlow (.inl rfl)) 1).trans <| run_row rfl (hhigh (.inl rfl)) 0

/-! ## The single transactions, whole (R141 to R143) -/

/-- `s` after a `WRCMD(c)` (R141). -/
def State.commandWritten (s : State) (c : Half) : State :=
  ((s.transferred .command c).latched none).finish

/-- `s` after a `WRDATA(v)` (R142). -/
def State.dataWritten (s : State) (v : Half) : State :=
  ((s.transferred .data v).latched (some v)).finish

/-- `s` after the command half of a `WRCMDP` (R143; log 5). -/
def State.commandHalf (s : State) (c p : Half) : State :=
  ((s.transferred .command c).latched none).goto (.wrcmdp c p) (.tx .data .latch)

section
variable {s : State} (hv : s.cfg.valid = true)
include hv

theorem serve_wrcmd (hs : s.seq = .idle) (c : Half) :
    s.serve (.wrcmd c) 4 = .next (s.commandWritten c) :=
  serve_transaction (ended := fun u => (u.latched none).finish)
    (fun _ _ _ => transactionRows hv (fun _ => rfl) fun _ _ => rfl) (.inr ⟨hs, rfl⟩)

theorem serve_wrdata (hs : s.seq = .idle) (v : Half) :
    s.serve (.wrdata v) 4 = .next (s.dataWritten v) :=
  serve_transaction (ended := fun u => (u.latched (some v)).finish)
    (fun _ _ _ => transactionRows hv (fun _ => rfl) fun _ _ => rfl) (.inr ⟨hs, rfl⟩)

theorem serve_wrcmdp (hs : s.seq = .idle) (c p : Half) : s.serve (.wrcmdp c p) 8 =
    .next ((s.commandHalf c p).dataWritten p) := by
  have hcommand : s.serve (.wrcmdp c p) 4 = .next (s.commandHalf c p) :=
    serve_transaction (ended := fun u => (u.latched none).goto (.wrcmdp c p) (.tx .data .latch))
      (fun _ _ _ => transactionRows hv (fun _ => rfl) fun _ _ => rfl) (.inr ⟨hs, rfl⟩)
  have hdata : (s.commandHalf c p).serve (.wrcmdp c p) 4 =
      .next ((s.commandHalf c p).dataWritten p) :=
    serve_transaction (ended := fun u => (u.latched (some p)).finish)
      (fun _ _ _ => transactionRows hv (fun _ => rfl) fun _ _ => rfl) (.inl rfl)
  rw [serve_append (j := 3) hcommand 4, run_busy (s := s.commandHalf c p) rfl 3, hdata]

end

/-- Settles O59: both sides make the same two transactions, and the latch record of the second. -/
theorem commandParamIsTwoRequests : Obligations.CommandParamIsTwoRequests := by
  rintro s c p ⟨hv, hs, -⟩
  have hone : run 8 (s.withPort (encode (.wrcmdp c p))) = _ :=
    run_of_serve (rest := []) hs rfl (serve_wrcmdp (s := s.withPort []) hv hs c p)
  have hcommand : run 4 (s.withPort (encode (.wrcmd c) ++ encode (.wrdata p))) = _ :=
    run_of_serve hs rfl (serve_wrcmd (s := s.withPort (encode (.wrdata p))) hv hs c)
  have hdata := (run_append hcommand 4).trans
    (run_of_serve (rest := []) rfl rfl (serve_wrdata (by exact hv) rfl p))
  exact ⟨_, _, hone, hdata, rfl, rfl, rfl, rfl, rfl, rfl, rfl, rfl⟩

end Sys2Proof.Machine
end

/-! # `WRMULTI` and `fill`, whole (R160 to R172, R82) -/

section
namespace Sys2Proof.Machine

/-! ## Pulses (R12, R167) -/

theorem pulses_add (c : BusContext) (m n : Nat) : pulses c (m + n) = pulses c m ++ pulses c n := by
  induction m with
  | zero => simp [pulses]
  | succ m ih => rw [Nat.succ_add, pulses, ih, pulses, List.append_assoc]

/-- `s` with `n` pulses emitted, the engine's registers at `e` and the sequencer at `q`. -/
def State.pulsed (s : State) (n : Nat) (e : Eng) (q : Seq) : State :=
  { s with trace := s.trace ++ pulses s.cfg n, eng := e, seq := q }

theorem pulsed_pulsed (s : State) (m n : Nat) (e e' : Eng) (q q' : Seq) :
    (s.pulsed m e q).pulsed n e' q' = s.pulsed (m + n) e' q' := by
  simp [State.pulsed, pulses_add]

/-- A fall and a rise of the strobe, from idle high, are one pulse. -/
theorem strobe_eq_pulsed {s : State} (hv : s.cfg.valid = true) (hwr : s.lines.wr = some .high)
    (i : Instr) (m : MicroStep) :
    (s.strobeLow.goto i m).strobeHigh = s.pulsed 1 s.eng (.busy i m) := by
  have hlines : { s.lines with wr := some .high } = s.lines := by rw [← hwr]
  rw [strobeLow_goto hv, strobeHigh_did (s := s.did _ _ _) hv]
  simp [State.did, State.pulsed, pulses, pulse, hlines]

/-! ## The pulses of a batch and of the tail (R161) -/

/-- A loop of pulses that a 6-bit index counts up to `last + 1`: each pulse from `low` on leads back
to `low` or, after the last, to `after`. -/
theorem reaches_pulses {i : Instr} {low after : MicroStep} {last : Nat} {regs : BitVec 6 → Eng}
    (hlast : last ≤ 39)
    (hpulse : ∀ (u : State) (j : BitVec 6), u.cfg.valid = true → u.lines.wr = some .high →
      u.seq = .busy i low → u.eng = regs j → j.toNat ≤ last →
      Reaches u (u.pulsed 1 (regs (j + 1)) (.busy i (if j.toNat < last then low else after))))
    {s : State} {j : BitVec 6} {m : Nat} (hv : s.cfg.valid = true)
    (hwr : s.lines.wr = some .high) (hs : s.seq = .busy i low) (he : s.eng = regs j)
    (hm : j.toNat + m = last) :
    Reaches s (s.pulsed (m + 1) (regs (BitVec.ofNat 6 (last + 1))) (.busy i after)) := by
  have hone := hpulse s j hv hwr hs he (by omega)
  have hsucc := index_succ_toNat (j := j) (by omega)
  induction m generalizing s j with
  | zero =>
    have hj : j + 1 = BitVec.ofNat 6 (last + 1) := by
      apply BitVec.eq_of_toNat_eq
      rw [hsucc, BitVec.toNat_ofNat]; omega
    rwa [if_neg (by omega), hj] at hone
  | succ m ih =>
    rw [if_pos (by omega)] at hone
    have hrest := ih (s := s.pulsed 1 (regs (j + 1)) (.busy i low)) (j := j + 1) hv hwr rfl rfl
      (by omega) (hpulse _ _ hv hwr rfl rfl (by omega)) (index_succ_toNat (by omega))
    rw [pulsed_pulsed, Nat.add_comm 1] at hrest
    exact hone.trans hrest

section
variable {n : Word} {v : Half} {s : State} (hv : s.cfg.valid = true)
  (hwr : s.lines.wr = some .high)
include hv hwr

/-- A pulse of a batch: BATCH_LOW and BATCH_HIGH. -/
theorem reaches_batchPulse {e : Eng} {k : BitVec 6} (hs : s.seq = .busy (.wrmulti n v) .batchLow)
    (he : s.eng = { e with k := some k }) :
    Reaches s (s.pulsed 1 { e with k := some (k + 1) }
      (.busy (.wrmulti n v) (if k.toNat < 39 then .batchLow else .batchTest))) := by
  refine .head (step_row hs rfl) (.head (step_row rfl rfl) ?_)
  rw [strobe_eq_pulsed hv hwr, nextInBatch_eq (k := k) _ (by simp [State.pulsed, he])]
  simp [State.pulsed, State.goto, he, Reaches.refl]

/-- A pulse of the tail: TAIL_LOW and TAIL_HIGH. -/
theorem reaches_tailPulse {e : Eng} {j : BitVec 6} (hs : s.seq = .busy (.wrmulti n v) .tailLow)
    (he : s.eng = { e with j := some j }) (hj : j.toNat ≤ 38) :
    Reaches s (s.pulsed 1 { e with j := some (j + 1) }
      (.busy (.wrmulti n v) (if j.toNat < 38 then .tailLow else .done))) := by
  refine .head (step_row hs rfl) (.head (step_row rfl rfl) ?_)
  rw [strobe_eq_pulsed hv hwr, nextInTail_eq (j := j) _ (by simp [State.pulsed, he]),
    index_succ_toNat (by omega)]
  simp [State.pulsed, State.goto, he, Reaches.refl, show j.toNat + 1 < 39 ↔ j.toNat < 38 by omega]

theorem reaches_batch {e : Eng} {k : BitVec 6} {m : Nat}
    (hs : s.seq = .busy (.wrmulti n v) .batchLow) (he : s.eng = { e with k := some k })
    (hm : k.toNat + m = 39) :
    Reaches s (s.pulsed (m + 1) { e with k := some 40 } (.busy (.wrmulti n v) .batchTest)) :=
  reaches_pulses (regs := fun k => { e with k := some k }) (by omega)
    (fun _ _ hv hwr hs he _ => reaches_batchPulse hv hwr hs he) hv hwr hs he hm

theorem reaches_tail {e : Eng} {j : BitVec 6} {m : Nat}
    (hs : s.seq = .busy (.wrmulti n v) .tailLow) (he : s.eng = { e with j := some j })
    (hm : j.toNat + m = 38) :
    Reaches s (s.pulsed (m + 1) { e with j := some 39 } (.busy (.wrmulti n v) .done)) :=
  reaches_pulses (regs := fun j => { e with j := some j }) (by omega)
    (fun _ _ hv hwr hs he hj => reaches_tailPulse hv hwr hs he hj) hv hwr hs he hm

end

/-! ## The engine from the branch on (R163 to R166) -/

/-- `s` after a `WRMULTI` with `r` pulses still to emit. -/
def State.bulkDone (s : State) (r : Nat) : State :=
  { s.pulsed r Eng.unknown .idle with reqIndex := s.reqIndex + 1 }

theorem bulkDone_pulsed (s : State) (m r : Nat) (e : Eng) (q : Seq) :
    (s.pulsed m e q).bulkDone r = s.bulkDone (m + r) := by
  rw [State.bulkDone, pulsed_pulsed]; rfl

theorem Reaches.after_pulses {s : State} {m r : Nat} {e : Eng} {q : Seq}
    (hm : Reaches s (s.pulsed m e q))
    (hr : Reaches (s.pulsed m e q) ((s.pulsed m e q).bulkDone r)) :
    Reaches s (s.bulkDone (m + r)) :=
  bulkDone_pulsed s m r e q ▸ hm.trans hr

theorem reaches_done {s : State} {n : Word} {v : Half} (hs : s.seq = .busy (.wrmulti n v) .done) :
    Reaches s (s.bulkDone 0) := by
  refine .head (step_row hs rfl) ?_
  simp [State.bulkDone, State.pulsed, pulses, State.clearEng, State.finish, Reaches.refl]

section
variable {n : Word} {v : Half} {s : State} (hv : s.cfg.valid = true)
  (hwr : s.lines.wr = some .high)
include hv hwr

/-- The dispatch enters the tail `r` pulses before its end (R166). -/
theorem reaches_of_dispatch {r : Word} (hs : s.seq = .busy (.wrmulti n v) .dispatch)
    (hr : s.eng.rem = some r) (hle : r.toNat ≤ 39) : Reaches s (s.bulkDone r.toNat) := by
  have hentry := tailEntry_toNat hle
  refine .head (step_row hs rfl) ?_
  rw [enterTail_eq _ hr, hentry]
  by_cases hzero : r.toNat = 0
  · rw [if_neg (by omega), hzero]
    exact reaches_done rfl
  · obtain ⟨m, hm⟩ := Nat.exists_eq_add_one_of_ne_zero hzero
    rw [if_pos (by omega), hm]
    exact .after_pulses (r := 0)
      (reaches_tail (e := { s.eng with entry := some (tailEntry r) }) (j := tailEntry r)
        (by exact hv) (by exact hwr) rfl rfl (by omega))
      (reaches_done rfl)

/-- From the branch on: batches of 40 while at least 40 pulses remain, then the tail. -/
theorem reaches_of_branch {r : Word} (hr : s.eng.rem = some r) :
    Reaches (s.batchOrDispatch (.wrmulti n v)) (s.bulkDone r.toNat) := by
  generalize hk : r.toNat = k
  induction k using Nat.strong_induction_on generalizing s r with
  | h k ih =>
    rw [batchOrDispatch_eq _ hr]
    split
    · have htest := takeBatch_toNat (r := r) (by omega)
      obtain ⟨j, rfl⟩ := Nat.exists_eq_add_of_le (show 40 ≤ k by omega)
      have hbatch := reaches_batch (s := s.enterBatch (.wrmulti n v)) (e := s.eng) (k := 0) hv hwr
        rfl rfl (m := 39) rfl
      refine hbatch.after_pulses (.head (step_row rfl rfl) ?_)
      exact ih j (by omega) (s := (State.pulsed _ _ _ _).takeBatch) hv hwr
        (congrArg (Option.map (· - 40)) hr) (by exact htest.trans (by omega))
    · exact hk ▸ reaches_of_dispatch (s := s.goto _ _) hv hwr rfl hr (by omega)

/-- The effect of a `WRMULTI` from every ready state (R160). -/
theorem serve_wrmulti (hs : s.seq = .idle) (n : Word) (v : Half) :
    ∃ k, s.serve (.wrmulti n v) k = .next ((s.checkWrmulti n v).bulkDone n.toNat) := by
  refine serve_of_reaches (exec_at (.inr ⟨hs, rfl⟩)) (.head (step_row rfl rfl) ?_)
  rw [checkWrmulti_eq]
  exact reaches_of_branch (s := State.goto _ _ (State.loadCount n _)) (by exact hv) (by exact hwr)
    rfl

end

/-! ## What the controller takes (R33) -/

theorem replay_transactionEvents {c : BusContext} (hv : c.valid = true) (l : Lines) (mode : BusMode)
    (x : Half) : Lines.replay c l (transactionEvents c mode x) =
      { l with d := some x, rs := some mode.level, wr := some .high } := by
  cases mode <;>
    simp [transactionEvents, pulse, Lines.after, driveHigh_wr hv, driveLow_wr hv, driveHigh_rs hv,
      driveLow_rs hv, BusMode.level]

/-- A transaction is one capture, of its mode and its value (R145). -/
theorem captures_transaction {c : BusContext} (hv : c.valid = true) (draw : Nat → Bool) (n : Nat)
    (l : Lines) (mode : BusMode) (x : Half) :
    capturesFrom draw c n l (transactionEvents c mode x) = [⟨some mode.level, some x⟩] := by
  have hm := masksApart hv
  cases mode <;>
    simp [transactionEvents, pulse, capturesFrom, risingEdge, Lines.after, driveLow_wr hv,
      driveHigh_rs hv, driveLow_rs hv, BusMode.level, hm.wr, hm.rs_wr]

/-- Each pulse is one capture of RS and the data lines, which it leaves (R167). -/
theorem captures_pulses {c : BusContext} (hv : c.valid = true) (draw : Nat → Bool) (n k : Nat)
    (l : Lines) : capturesFrom draw c n l (pulses c k) = List.replicate k ⟨l.rs, l.d⟩ := by
  induction k generalizing n l with
  | zero => rfl
  | succ k ih =>
    simp [pulses, pulse, capturesFrom, risingEdge, Lines.after, driveHigh_wr hv, driveLow_wr hv,
      (masksApart hv).wr, ih, List.replicate_succ]

theorem capturesSince_of_trace {s t : State} {es : List Event} (draw : Nat → Bool)
    (h : t.trace = s.trace ++ es) :
    capturesSince draw s t = capturesFrom draw s.cfg s.trace.length s.lines es := by
  rw [capturesSince, h, List.drop_left]

/-- A data transaction of `x` and `k` pulses are `k + 1` captures of `x` in data mode. -/
theorem captures_transaction_pulses {c : BusContext} (hv : c.valid = true) (draw : Nat → Bool)
    (n k : Nat) (l : Lines) (x : Half) :
    capturesFrom draw c n l (transactionEvents c .data x ++ pulses c k) =
      List.replicate (k + 1) ⟨some .high, some x⟩ := by
  rw [capturesFrom_append, captures_transaction hv, captures_pulses hv, replay_transactionEvents hv]
  rfl

/-! ## `fill` (R82) -/

theorem assemble_fill {n v : Nat} (hn : n ≤ 2 ^ 32) (hv : v < 2 ^ 16) :
    (AsmLine.fill n v).assemble = some ((AsmLine.fill n v).requests.flatMap encode) := by
  have hwf : (AsmLine.fill n v).wellFormed = true := by
    rw [AsmLine.wellFormed, Bool.and_eq_true]
    exact ⟨decide_eq_true hn, decide_eq_true hv⟩
  exact if_pos hwf

/-- The contract is met: no record. -/
theorem checkWrmulti_of_lines {s : State} {v : Half} (n : Word) (hd : s.lines.d = some v)
    (hrs : s.lines.rs = some .high) : s.checkWrmulti n v = s := by
  rw [State.checkWrmulti, if_pos ((wrmultiOk_iff s n v).mpr (.inr ⟨hd, hrs⟩))]

/-- A `WRDATA(v)` and a `WRMULTI(n, v)`, one after the other: the contract of the second is met. -/
theorem reaches_fill {s : State} {v : Half} {n : Word} (hv : s.cfg.valid = true)
    (hs : s.seq = .idle)
    (hp : s.port = encode (.wrdata v) ++ encode (.wrmulti n v)) :
    Reaches s (((s.withPort []).dataWritten v).bulkDone n.toNat) := by
  have hdata := run_of_serve hs hp (serve_wrdata (s := s.withPort (encode (.wrmulti n v))) hv hs v)
  obtain ⟨k, hbulk⟩ := serve_wrmulti (s := (s.withPort []).dataWritten v) hv rfl rfl n v
  rw [checkWrmulti_of_lines n rfl rfl] at hbulk
  exact .trans ⟨4, hdata⟩ (reaches_of_serve (i := .wrmulti n v) (rest := []) rfl rfl hbulk)

/-- Settles O60: one data transaction, whose value and register-select the pulses of the bulk
request repeat. -/
theorem fillWritesNTimes : Obligations.FillWritesNTimes := by
  intro s n v draw hinv hs hn hv
  have hvalid := hinv.valid
  cases n with
  | zero =>
    refine ⟨_, 0, s.withPort [], assemble_fill hn hv, rfl, ?_, rfl, ?_⟩
    · simp [State.runEnded, hs]
    · exact capturesSince_of_trace (es := []) draw (List.append_nil _).symm
  | succ n =>
    have hcount : (operand32 n).toNat = n := Nat.mod_eq_of_lt (by omega)
    obtain ⟨k, hrun⟩ := reaches_fill (v := operand16 v) (n := operand32 n)
      (s := s.withPort ((AsmLine.fill (n + 1) v).requests.flatMap encode)) hvalid hs rfl
    refine ⟨_, k, _, assemble_fill hn hv, hrun, rfl, rfl, ?_⟩
    rw [hcount, capturesSince_of_trace draw (List.append_assoc ..)]
    exact captures_transaction_pulses hvalid draw _ n _ _

end Sys2Proof.Machine
end

/-! # BIND: what it checks, and what it makes or refuses (R100, R101, R104, R105) -/

section
namespace Sys2Proof.Machine

theorem aligned2_iff {a : Word} : aligned2 a = true ↔ a.getLsbD 0 = false := by
  rw [aligned2, Bool.not_eq_true']

section
variable {p : PinDescription} {variant : ControlVariant}

theorem bindPins_unrecognised (hf : p.familyRecognised = false) :
    bindPins p variant = .error .unsupportedFamily := by
  simp [bindPins, hf]

theorem bindPins_invalid (hf : p.familyRecognised = true)
    (hv : (resolve p variant).valid = false) : bindPins p variant = .error .invalidPins := by
  simp [bindPins, hf, hv]

theorem bindPins_valid (hf : p.familyRecognised = true)
    (hv : (resolve p variant).valid = true) : bindPins p variant = .ok (resolve p variant) := by
  simp [bindPins, hf, hv]

variable (port : List Word) (mem : Memory)

theorem construct_of_refused {r : BindRefusal} (h : bindPins p variant = .error r) :
    construct p variant port mem = .error r := by
  rw [construct, h]

/-- A description that passes both checks gives the block of the binding it resolves to. -/
theorem construct_valid (hf : p.familyRecognised = true)
    (hv : (resolve p variant).valid = true) :
    construct p variant port mem = .ok (State.constructed (resolve p variant) port mem) := by
  rw [construct, bindPins_valid hf hv]
  exact congrArg Except.ok (init_bound hv port mem)

end

/-- Settles O39: the four checks in the words of R101, and BIND's second refusal. -/
theorem validBindingMeans : Obligations.ValidBindingMeans := by
  constructor
  · intro c
    simp only [valid_iff, oneBit_iff, aligned2_iff]
  · intro p variant port mem hf hv
    exact construct_of_refused port mem (bindPins_invalid hf hv)

/-- Settles O40: one clause per way out of BIND. -/
theorem bindOutcomes : Obligations.BindOutcomes := by
  intro p variant port mem
  refine ⟨fun hf => ?unrecognised, fun hf hv => ?invalid, fun hf hv => ?bound⟩
  case unrecognised => exact construct_of_refused port mem (bindPins_unrecognised hf)
  case invalid => exact construct_of_refused port mem (bindPins_invalid hf hv)
  case bound =>
    exact ⟨_, construct_valid port mem hf hv, rfl, rfl, rfl, rfl, rfl, rfl, rfl⟩

end Sys2Proof.Machine
end

/-! # `RESET`, whole, and who writes RST (R120 to R124) -/

section
namespace Sys2Proof.Machine

/-! ## The pulse train (R120, R121) -/

/-- `s` after a `RESET` accepted in IDLE (R120). -/
def State.controllerReset (s : State) : State :=
  { s with
    lines := { s.lines with rst := some .high }
    ghost := ⟨none⟩
    trace := s.trace ++ resetEvents s.cfg
    seq := .idle
    reqIndex := s.reqIndex + 1 }

/-- Row after row of R121's table, each an operation that moves the sequencer to the next. -/
theorem serve_reset {s : State} (hv : s.cfg.valid = true) (hs : s.seq = .idle) :
    s.serve .reset 7 = .next s.controllerReset := by
  calc s.serve .reset 7
    _ = run 6 ((s.dly 10).goto .reset .rstHigh) := serve_of_exec (exec_at (.inr ⟨hs, rfl⟩)) 6
    _ = run 5 _ := run_of_step (step_row rfl rfl) 5
    _ = run 4 _ := run_of_step (step_row rfl rfl) 4
    _ = run 3 _ := run_of_step (step_row rfl rfl) 3
    _ = run 2 _ := run_of_step (step_row rfl rfl) 2
    _ = run 1 _ := run_of_step (step_row rfl rfl) 1
    _ = run 0 _ := run_of_step (step_row rfl rfl) 0
    _ = .next s.controllerReset := by
      simp [run_zero, State.controllerReset, resetEvents, Config.highMs, Config.assertMs,
        Config.releaseMs, State.finish, State.latched, State.goto, State.dly, State.cs, State.cr,
        State.emit, Lines.after, driveHigh_rst hv, driveLow_rst hv]

/-! ## No capture (R33) -/

/-- Without a set write that has WR's bit there is no rise of WR, whatever the draw. -/
theorem capturesFrom_eq_nil {c : BusContext} {es : List Event}
    (hes : ∀ m, Event.cs m ∈ es → m &&& c.writeStrobeMask = 0#16) (draw : Nat → Bool)
    (n : Nat) (l : Lines) : capturesFrom draw c n l es = [] := by
  induction es generalizing n l with
  | nil => rfl
  | cons e es ih =>
    have hedge : risingEdge draw c n l e = false := by
      cases e with
      | cs m => simp [risingEdge, hes m (.head _)]
      | _ => rfl
    simp [capturesFrom, hedge, ih fun m hm => hes m (.tail _ hm)]

theorem captures_reset {c : BusContext} (hv : c.valid = true) (draw : Nat → Bool) (n : Nat)
    (l : Lines) : capturesFrom draw c n l (resetEvents c) = [] := by
  refine capturesFrom_eq_nil (fun m hm => ?_) draw n l
  obtain rfl : m = c.resetMask := by simpa [resetEvents] using hm
  exact (masksApart hv).rst_wr

/-- Settles O28: the table is run from its first row to its last, and RST's mask lacks WR's bit. -/
theorem resetWhole : Obligations.ResetWhole := by
  refine ⟨fun s ⟨hv, hs, _⟩ => ⟨⟨7, ?_⟩, captures_reset hv (l := s.lines), rfl⟩,
    decodeOfEncode .reset⟩
  rw [serve_reset hv hs, State.controllerReset, ← hs]
  rfl

/-! ## What each table leaves of the lines (R124, R168, R221) -/

section
variable {s t : State} {m : MicroStep} (hv : s.cfg.valid = true)
include hv

/-- A row of `RESET` is one event, which moves RST at most; beside the trace and the sequencer
only the latch record and the position in the stream may change. -/
theorem resetTable_next (h : s.resetTable m = .next t) :
    ∃ level e q g p, t =
      { s.did { s.lines with rst := level } e q with ghost := g, reqIndex := p } := by
  unfold State.resetTable at h
  split at h <;> cases h
  · rw [dly_goto]; exact ⟨_, _, _, _, _, rfl⟩
  · rw [raiseReset_goto hv]; exact ⟨_, _, _, _, _, rfl⟩
  · rw [dly_goto]; exact ⟨_, _, _, _, _, rfl⟩
  · rw [lowerReset_goto hv]; exact ⟨_, _, _, _, _, rfl⟩
  · rw [dly_goto]; exact ⟨_, _, _, _, _, rfl⟩
  · rw [raiseReset_goto hv]; exact ⟨_, _, _, _, _, rfl⟩
  · exact ⟨_, _, _, _, _, rfl⟩

theorem transaction_rst {i : Instr} {mode : BusMode} {x : Half} {ending : State → State}
    (hend : ∀ u, (ending u).lines = u.lines) (r : TxStep) :
    (s.transaction i mode x ending r).lines.rst = s.lines.rst := by
  cases r with
  | latch => rfl
  | select => rw [State.transaction, select_goto hv]; rfl
  | strobeLow => rw [State.transaction, strobeLow_goto hv]; rfl
  | strobeHigh => rw [State.transaction, hend, strobeHigh_lines hv]

theorem wrcmdTable_rst {c : Half} (h : s.wrcmdTable c m = .next t) :
    t.lines.rst = s.lines.rst := by
  unfold State.wrcmdTable at h
  split at h <;> cases h
  exact transaction_rst hv (by simp) _

theorem wrdataTable_rst {v : Half} (h : s.wrdataTable v m = .next t) :
    t.lines.rst = s.lines.rst := by
  unfold State.wrdataTable at h
  split at h <;> cases h
  exact transaction_rst hv (by simp) _

theorem wrcmdpTable_rst {c p : Half} (h : s.wrcmdpTable c p m = .next t) :
    t.lines.rst = s.lines.rst := by
  unfold State.wrcmdpTable at h
  split at h <;> cases h
  · exact transaction_rst hv (by simp) _
  · exact transaction_rst hv (by simp) _

/-- Of the lines a `WRAGAIN` moves WR at most (R144). -/
theorem wragainTable_lines {v : Half} (h : s.wragainTable v m = .next t) :
    ∃ level, t.lines = { s.lines with wr := level } := by
  unfold State.wragainTable at h
  split at h <;> cases h
  · rw [checkWragain_eq]; exact ⟨_, rfl⟩
  · exact ⟨_, strobeLow_lines hv⟩
  · exact ⟨_, strobeHigh_lines hv⟩

omit hv in
theorem batchOrDispatch_lines (s : State) (i : Instr) : (s.batchOrDispatch i).lines = s.lines := by
  unfold State.batchOrDispatch
  split <;> rfl

/-- Of the lines a `WRMULTI` moves WR at most (R160, R168). -/
theorem wrmultiTable_lines {n : Word} {v : Half} (h : s.wrmultiTable n v m = .next t) :
    ∃ level, t.lines = { s.lines with wr := level } := by
  unfold State.wrmultiTable at h
  split at h <;> cases h
  · rw [checkWrmulti_eq]; exact ⟨_, rfl⟩
  · exact ⟨_, batchOrDispatch_lines _ _⟩
  · exact ⟨_, strobeLow_lines hv⟩
  · exact ⟨_, strobeHigh_lines hv⟩
  · exact ⟨_, batchOrDispatch_lines _ _⟩
  · exact ⟨_, rfl⟩
  · exact ⟨_, strobeLow_lines hv⟩
  · exact ⟨_, strobeHigh_lines hv⟩
  · exact ⟨_, rfl⟩

omit hv in
theorem rawxferCheck_lines (s : State) (b n : Word) : (s.rawxferCheck b n).lines = s.lines := by
  unfold State.rawxferCheck
  split
  · split <;> rfl
  · rfl

omit hv in
theorem rawxferNext_lines (s : State) (b n i : Word) (x : Half) :
    (s.rawxferNext b n i x).lines = s.lines := by
  unfold State.rawxferNext
  split <;> rfl

omit hv in
theorem rawxferRead_lines {b n : Word} (h : s.rawxferRead b n = .next t) : t.lines = s.lines := by
  unfold State.rawxferRead at h
  split at h
  · cases h
  · split at h <;> cases h
    rfl

theorem rawxferTable_rst {b n : Word} (h : s.rawxferTable b n m = .next t) :
    t.lines.rst = s.lines.rst := by
  unfold State.rawxferTable at h
  split at h
  · cases h; rw [rawxferCheck_lines]
  · rw [rawxferRead_lines h]
  · unfold State.rawxferTx at h
    split at h <;> cases h
    exact transaction_rst hv (fun u => rawxferNext_lines u _ _ _ _) _
  · cases h

/-- `RESET` alone writes RST (R124). -/
theorem tableOf_rst {i : Instr} (hi : i ≠ .reset) (h : tableOf s i m = .next t) :
    t.lines.rst = s.lines.rst := by
  cases i with
  | wrcmd c => exact wrcmdTable_rst hv h
  | wrdata v => exact wrdataTable_rst hv h
  | wrcmdp c p => exact wrcmdpTable_rst hv h
  | wragain v => obtain ⟨_, hl⟩ := wragainTable_lines hv h; rw [hl]
  | wrmulti n v => obtain ⟨_, hl⟩ := wrmultiTable_lines hv h; rw [hl]
  | rawxfer b n => exact rawxferTable_rst hv h
  | reset => exact absurd rfl hi

end

/-- Settles O33: a row of `RESET` leaves all but what its table names, and no other table has a
control write of RST's mask. -/
theorem resetFrame : Obligations.ResetFrame := by
  refine ⟨fun s t hv h => ?_, fun i s t hv hi h => ?_⟩
  · obtain ⟨m, -, htab⟩ := exec_next h
    obtain ⟨_, _, _, _, _, rfl⟩ := resetTable_next hv htab
    exact ⟨rfl, rfl, rfl, rfl, rfl, rfl, rfl, rfl, rfl, fun _ => rfl⟩
  · obtain ⟨m, -, htab⟩ := exec_next h
    exact tableOf_rst hv hi htab

end Sys2Proof.Machine
end

/-! # The single transactions, whole, and what they leave (R140 to R145, R223, R224) -/

section
namespace Sys2Proof.Machine

/-! ## Full transactions (R141 to R143) -/

/-- Settles O22: the one transaction, in command mode, and its one capture. -/
theorem wrcmdWhole : Obligations.WrcmdWhole := by
  refine fun cmd => ⟨fun s ⟨hv, hs, _⟩ => ⟨⟨4, ?_⟩, ?_⟩, decodeOfEncode (.wrcmd cmd)⟩
  · rw [serve_wrcmd hv hs, hs]
    rfl
  · exact fun draw n => captures_transaction hv draw n s.lines .command cmd

/-- Settles O23: the one transaction, in data mode, and its one capture. -/
theorem wrdataWhole : Obligations.WrdataWhole := by
  refine fun value => ⟨fun s ⟨hv, hs, _⟩ => ⟨⟨4, ?_⟩, ?_⟩, decodeOfEncode (.wrdata value)⟩
  · rw [serve_wrdata hv hs, hs]
    rfl
  · exact fun draw n => captures_transaction hv draw n s.lines .data value

/-- After both halves of a `WRCMDP` the lines and the latch record are those of the second. -/
theorem dataWritten_commandHalf {s : State} (hs : s.seq = .idle) (c p : Half) :
    (s.commandHalf c p).dataWritten p = { s with
      lines := { s.lines with d := some p, rs := some .high, wr := some .high }
      ghost := ⟨some p⟩
      trace := s.trace ++ (transactionEvents s.cfg .command c ++ transactionEvents s.cfg .data p)
      reqIndex := s.reqIndex + 1 } := by
  rw [← List.append_assoc, hs]
  rfl

/-- Settles O24: two transactions one after the other, and the capture of each. -/
theorem wrcmdpWhole : Obligations.WrcmdpWhole := by
  refine fun cmd param =>
    ⟨fun s ⟨hv, hs, _⟩ => ⟨⟨8, ?_⟩, fun draw n => ?_⟩, decodeOfEncode (.wrcmdp cmd param)⟩
  · rw [serve_wrcmdp hv hs, dataWritten_commandHalf hs]
  · rw [capturesFrom_append, captures_transaction hv, captures_transaction hv]
    rfl

/-! ## The strobe-only transaction (R144) -/

/-- The contract test and one pulse, from WR idle high. -/
theorem serve_wragain {s : State} (hv : s.cfg.valid = true) (hs : s.seq = .idle)
    (hwr : s.lines.wr = some .high) (v : Half) :
    s.serve (.wragain v) 3 = .next ((s.checkWragain v).pulsed 1 s.eng .idle).finish := by
  have hcheck := checkWragain_eq s v
  calc s.serve (.wragain v) 3
    _ = run 2 ((s.checkWragain v).goto (.wragain v) (.tx .data .strobeLow)) :=
      serve_of_exec (exec_at (.inr ⟨hs, rfl⟩)) 2
    _ = run 1 _ := run_of_step (step_row rfl rfl) 1
    _ = run 0 _ := run_of_step (step_row rfl rfl) 0
    _ = .next ((s.checkWragain v).pulsed 1 s.eng .idle).finish := by
      rw [strobe_eq_pulsed (by rw [hcheck]; exact hv) (by rw [hcheck]; exact hwr), hcheck]
      rfl

/-- Settles O25: the contract test decides the record alone, and the one pulse captures the lines
it finds, which the latch record tells. -/
theorem wragainWhole : Obligations.WragainWhole := by
  refine fun value =>
    ⟨fun s ⟨hv, hs, hwr⟩ => ⟨⟨3, ?_⟩, ?_, ?_⟩, decodeOfEncode (.wragain value)⟩
  · rw [serve_wragain hv hs hwr, checkWragain_eq, hs]
    rfl
  · exact fun draw n => captures_pulses hv draw n 1 s.lines
  · intro hinv hlast
    obtain ⟨-, -, -, hghost⟩ := hinv.sequencer.of_idle hs
    exact (hghost value hlast).symm

/-! ## What a full transaction leaves (R141 to R143) -/

/-- `t` is `s` after one event, where beside the lines, the trace and the sequencer only the latch
record and the position in the stream may have changed. -/
def TransactionMove (s t : State) : Prop :=
  ∃ l e q g p, t = { s.did l e q with ghost := g, reqIndex := p }

section
variable {s t : State} {m : MicroStep} (hv : s.cfg.valid = true)
include hv

/-- Every row of a transaction is such a move, if its ending is one. -/
theorem transaction_move {i : Instr} {mode : BusMode} {x : Half} {ending : State → State}
    (hend : ∀ l e, TransactionMove s (ending (s.did l e s.seq))) (r : TxStep) :
    TransactionMove s (s.transaction i mode x ending r) := by
  cases r with
  | latch => rw [State.transaction, dw_goto]; exact ⟨_, _, _, _, _, rfl⟩
  | select => rw [State.transaction, select_goto hv]; exact ⟨_, _, _, _, _, rfl⟩
  | strobeLow => rw [State.transaction, strobeLow_goto hv]; exact ⟨_, _, _, _, _, rfl⟩
  | strobeHigh => rw [State.transaction, strobeHigh_did hv]; exact hend _ _

theorem wrcmdTable_move {c : Half} (h : s.wrcmdTable c m = .next t) : TransactionMove s t := by
  unfold State.wrcmdTable at h
  split at h <;> cases h
  exact transaction_move hv (fun _ _ => ⟨_, _, _, _, _, rfl⟩) _

theorem wrdataTable_move {v : Half} (h : s.wrdataTable v m = .next t) : TransactionMove s t := by
  unfold State.wrdataTable at h
  split at h <;> cases h
  exact transaction_move hv (fun _ _ => ⟨_, _, _, _, _, rfl⟩) _

theorem wrcmdpTable_move {c p : Half} (h : s.wrcmdpTable c p m = .next t) :
    TransactionMove s t := by
  unfold State.wrcmdpTable at h
  split at h <;> cases h
  · exact transaction_move hv (fun _ _ => ⟨_, _, _, _, _, rfl⟩) _
  · exact transaction_move hv (fun _ _ => ⟨_, _, _, _, _, rfl⟩) _

end

/-- Settles O30: every row is one event and the ending, and `RESET` alone writes RST. -/
theorem transactionFrame : Obligations.TransactionFrame := by
  intro i s t hv hi h
  obtain ⟨m, -, htab⟩ := exec_next h
  have hrst : t.lines.rst = s.lines.rst := tableOf_rst hv (by rintro rfl; simp at hi) htab
  obtain ⟨_, _, _, _, _, rfl⟩ : TransactionMove s t := by
    obtain ⟨c, rfl⟩ | ⟨v, rfl⟩ | ⟨c, p, rfl⟩ := hi
    · exact wrcmdTable_move hv htab
    · exact wrdataTable_move hv htab
    · exact wrcmdpTable_move hv htab
  exact ⟨hrst, rfl, rfl, rfl, rfl, rfl, rfl, fun _ => rfl⟩

/-! ## What the pulse requests leave (R144, R160, R168) -/

section
variable {s t : State} {m : MicroStep}

theorem wragainTable_registers {v : Half} (h : s.wragainTable v m = .next t) :
    t.ghost = s.ghost ∧ t.raw = s.raw ∧ t.eng = s.eng := by
  unfold State.wragainTable at h
  split at h <;> cases h
  · rw [checkWragain_eq]; exact ⟨rfl, rfl, rfl⟩
  · exact ⟨rfl, rfl, rfl⟩
  · exact ⟨rfl, rfl, rfl⟩

theorem batchOrDispatch_registers (s : State) (i : Instr) :
    (s.batchOrDispatch i).ghost = s.ghost ∧ (s.batchOrDispatch i).raw = s.raw := by
  unfold State.batchOrDispatch
  split <;> exact ⟨rfl, rfl⟩

theorem wrmultiTable_registers {n : Word} {v : Half} (h : s.wrmultiTable n v m = .next t) :
    t.ghost = s.ghost ∧ t.raw = s.raw := by
  unfold State.wrmultiTable at h
  split at h <;> cases h
  case h_1 => rw [checkWrmulti_eq]; exact ⟨rfl, rfl⟩
  case h_2 | h_5 => exact batchOrDispatch_registers _ _
  all_goals exact ⟨rfl, rfl⟩

end

/-- Settles O31: no table of the two writes a line but WR, nor the latch record or the transfer
registers. -/
theorem pulseFrame : Obligations.PulseFrame := by
  intro i s t hv hi h
  obtain ⟨m, -, htab⟩ := exec_next h
  have hrow := tableOf_row htab
  obtain ⟨⟨level, hl⟩, hg, hr, he⟩ : (∃ level, t.lines = { s.lines with wr := level }) ∧
      t.ghost = s.ghost ∧ t.raw = s.raw ∧ ((∃ v, i = .wragain v) → t.eng = s.eng) := by
    obtain ⟨v, rfl⟩ | ⟨n, v, rfl⟩ := hi
    · obtain ⟨hg, hr, he⟩ := wragainTable_registers htab
      exact ⟨wragainTable_lines hv htab, hg, hr, fun _ => he⟩
    · obtain ⟨hg, hr⟩ := wrmultiTable_registers htab
      exact ⟨wrmultiTable_lines hv htab, hg, hr, nofun⟩
  refine ⟨?_, ?_, ?_, hg, hr, hrow.cfg, hrow.dir, hrow.port, he, fun a => by rw [hrow.mem]⟩ <;>
    rw [hl]

/-! ## Contracts before any data write (R144, R162, R223 (b)) -/

/-- In a clean trace only `CS(RS_M)` drives RS high. -/
theorem after_rs_ne_high {c : BusContext} (hv : c.valid = true) {l : Lines} {e : Event}
    (he : e.oneLine c) (hne : e ≠ .cs c.registerSelectMask) (hl : l.rs ≠ some .high) :
    (l.after c e).rs ≠ some .high := by
  cases e with
  | cs m =>
    obtain rfl | rfl | rfl := he
    · rwa [Lines.after, driveHigh_wr hv]
    · exact absurd rfl hne
    · rwa [Lines.after, driveHigh_rst hv]
  | cr m =>
    change (if m &&& c.registerSelectMask ≠ 0 then some .low else l.rs) ≠ some .high
    split
    · simp
    · exact hl
  | dw _ | cfg _ _ | delay _ | read _ _ => exact hl

theorem replay_rs_ne_high {c : BusContext} (hv : c.valid = true) {l : Lines} {es : List Event}
    (hc : CleanTrace c l es) (hne : .cs c.registerSelectMask ∉ es) (hl : l.rs ≠ some .high) :
    (Lines.replay c l es).rs ≠ some .high := by
  induction es generalizing l with
  | nil => exact hl
  | cons e es ih =>
    obtain ⟨⟨he, -⟩, hc⟩ := hc
    exact ih hc (List.not_mem_of_not_mem_cons hne)
      (after_rs_ne_high hv he (List.ne_of_not_mem_cons hne).symm hl)

section
variable {s : State} (hs : s.seq = .idle)
include hs

theorem exec_wragain_records (hg : s.ghost.lastData = none) (v : Half) :
    ∃ t, exec (.wragain v) s = .next t ∧ t.trace = s.trace ∧
      t.faults = s.faults ++ [⟨s.reqIndex, .contractWragain v none s.lines.d s.lines.rs⟩] := by
  refine ⟨_, exec_at (.inr ⟨hs, rfl⟩), ?_⟩
  rw [checkWragain_eq, hg]
  exact ⟨rfl, rfl⟩

theorem exec_wrmulti_records (hrs : s.lines.rs ≠ some .high) {n : Word} (hn : n ≠ 0) (v : Half) :
    ∃ t, exec (.wrmulti n v) s = .next t ∧ t.trace = s.trace ∧
      t.faults = s.faults ++ [⟨s.reqIndex, .contractWrmulti n v s.lines.d s.lines.rs⟩] := by
  refine ⟨_, exec_at (.inr ⟨hs, rfl⟩), ?_⟩
  rw [checkWrmulti_eq, if_neg fun h => h.elim hn fun ⟨_, h⟩ => hrs h]
  exact ⟨rfl, rfl⟩

end

/-- Settles O44: without a data-mode latch RS is not high, so the contract of neither holds. -/
theorem dataWriteComesFirst : Obligations.DataWriteComesFirst := by
  refine ⟨fun p variant port mem s v hc => ?_, fun s v hinv hs hne => ?_⟩
  · obtain ⟨-, rfl⟩ := construct_ok hc
    refine ⟨?_, fun n hn => ?_⟩
    · obtain ⟨t, hx, htr, hf⟩ := exec_wragain_records (s := State.constructed _ port mem) rfl rfl v
      exact ⟨t, hx, hf, htr⟩
    · obtain ⟨t, hx, htr, hf⟩ :=
        exec_wrmulti_records (s := State.constructed _ port mem) rfl nofun hn v
      exact ⟨t, hx, hf, htr⟩
  · have hrs : s.lines.rs ≠ some .high :=
      hinv.levels ▸ replay_rs_ne_high hinv.valid hinv.clean hne nofun
    obtain ⟨-, -, -, hghost⟩ := hinv.sequencer.of_idle hs
    have hg : s.ghost.lastData = none :=
      Option.eq_none_iff_forall_ne_some.mpr fun v hv => hrs (hghost v hv).2
    exact ⟨exec_wragain_records hs hg v, fun n hn => exec_wrmulti_records hs hrs hn v⟩

/-! ## Set up before the strobe falls (R140, R224) -/

/-- Settles O51: the invariant holds along the run, and tells the lines of each transaction
where its strobe is about to fall. -/
theorem setupBeforeTheFall : Obligations.SetupBeforeTheFall := by
  intro p variant port mem s t k hm hc hrun
  have hseq := ((construct_inv hm hc).of_run hrun).sequencer
  refine ⟨fun c hs => ?_, fun v hs => ?_, fun c q hs => ?_, fun c q hs => ?_, fun b n hs => ?_⟩
  · obtain ⟨hwr, -, -, _, ⟨⟩, hd, hrs⟩ := hseq.of_busy hs
    exact ⟨hd, hrs, hwr⟩
  · obtain ⟨hwr, -, -, _, ⟨⟩, hd, hrs⟩ := hseq.of_busy hs
    exact ⟨hd, hrs, hwr⟩
  · obtain ⟨hwr, -, -, ⟨_, ⟨⟩, hd, hrs⟩ | ⟨_, ⟨⟩, -⟩⟩ := hseq.of_busy hs
    exact ⟨hd, hrs, hwr⟩
  · obtain ⟨hwr, -, -, ⟨_, ⟨⟩, -⟩ | ⟨_, ⟨⟩, hd, hrs⟩⟩ := hseq.of_busy hs
    exact ⟨hd, hrs, hwr⟩
  · obtain ⟨hwr, -, -, -, i, x, hi, -, -, hx, hd, hrs⟩ := hseq.of_busy hs
    exact ⟨i, x, hi, hx, hd, hrs, hwr⟩

end Sys2Proof.Machine
end

/-! # `WRMULTI`, and what it shares with repeated writes (R160, R167, R169) -/

section
namespace Sys2Proof.Machine

/-- Settles O26: the engine's run from the contract test on is `count` pulses, and each pulse
captures the lines it finds. -/
theorem wrmultiWhole : Obligations.WrmultiWhole := by
  refine fun count value => ⟨fun s ⟨hv, hs, hwr⟩ => ⟨?_, ?_⟩,
    decodeOfEncode (.wrmulti count value)⟩
  · obtain ⟨k, hserve⟩ := serve_wrmulti hv hwr hs count value
    refine ⟨k, hserve.trans ?_⟩
    rw [checkWrmulti_eq, hs]
    rfl
  · exact fun draw n => captures_pulses hv draw n count.toNat s.lines

/-! ## Repeated `WRAGAIN` (R144, R169) -/

/-- A request served is a run of the block, once the host has presented its words (R70). -/
theorem reaches_of_presented {s t : State} {i : Instr} {rest : List Word} {k : Nat}
    (hs : s.seq = .idle) (h : (s.withPort rest).serve i k = .next t) :
    Reaches (s.withPort (encode i ++ rest)) t :=
  reaches_of_serve (s := s.withPort _) hs rfl h

/-- `s` after `n` times `WRAGAIN` with the contract met: a pulse for each. -/
def State.strobedAgain (s : State) (n : Nat) : State :=
  { s.pulsed n s.eng .idle with reqIndex := s.reqIndex + n }

theorem strobedAgain_zero {s : State} (hs : s.seq = .idle) : s.strobedAgain 0 = s := by
  simp [State.strobedAgain, State.pulsed, pulses, ← hs]

theorem strobedAgain_strobedAgain (s : State) (m n : Nat) :
    (s.strobedAgain m).strobedAgain n = s.strobedAgain (m + n) := by
  simp [State.strobedAgain, State.pulsed, pulses_add, Nat.add_assoc]

/-- With its contract met, a `WRAGAIN` is one pulse and no record. -/
theorem serve_wragain_of_latched {s : State} {v : Half} (hv : s.cfg.valid = true)
    (hs : s.seq = .idle) (hwr : s.lines.wr = some .high) (hg : s.ghost.lastData = some v) :
    s.serve (.wragain v) 3 = .next (s.strobedAgain 1) := by
  rw [serve_wragain hv hs hwr, checkWragain_eq, if_pos hg]
  rfl

section
variable {s : State} (hv : s.cfg.valid = true) (hs : s.seq = .idle)
include hv hs

/-- A stream of `n` times `WRAGAIN` of the value last latched: `n` pulses, and no record, since a
`WRAGAIN` leaves the latch record. -/
theorem reaches_wragains (hwr : s.lines.wr = some .high) {v : Half}
    (hg : s.ghost.lastData = some v) (n : Nat) :
    Reaches (s.withPort ((List.replicate n (Instr.wragain v)).flatMap encode))
      ((s.withPort []).strobedAgain n) := by
  induction n generalizing s with
  | zero =>
    rw [strobedAgain_zero (s := s.withPort []) hs]
    exact .refl _
  | succ n ih =>
    have hone := serve_wragain_of_latched
      (s := s.withPort ((List.replicate n (Instr.wragain v)).flatMap encode)) hv hs hwr hg
    rw [List.replicate_succ, List.flatMap_cons, Nat.add_comm, ← strobedAgain_strobedAgain]
    exact (reaches_of_presented hs hone).trans (ih (s := s.strobedAgain 1) hv rfl hwr hg)

/-! ## The two streams of R169 -/

/-- A `WRDATA(v)`, then `n` times `WRAGAIN(v)`: the latch record of the first meets every
contract. -/
theorem reaches_repeats (v : Half) (n : Nat) :
    Reaches
      (s.withPort (encode (.wrdata v) ++ (List.replicate n (Instr.wragain v)).flatMap encode))
      (((s.withPort []).dataWritten v).strobedAgain n) := by
  have hdata := serve_wrdata
    (s := s.withPort ((List.replicate n (Instr.wragain v)).flatMap encode)) hv hs v
  exact (reaches_of_presented hs hdata).trans
    (reaches_wragains (s := s.dataWritten v) hv rfl rfl rfl n)

/-- A `WRMULTI(n, v)` alone on the port, its contract met: `n` pulses and no record. -/
theorem reaches_bulk (hwr : s.lines.wr = some .high) {v : Half} (hd : s.lines.d = some v)
    (hrs : s.lines.rs = some .high) (n : Word) :
    Reaches (s.withPort (encode (.wrmulti n v))) ((s.withPort []).bulkDone n.toNat) := by
  obtain ⟨_, hbulk⟩ := serve_wrmulti (s := s.withPort []) hv hwr hs n v
  rw [checkWrmulti_of_lines (s := s.withPort []) n hd hrs] at hbulk
  exact reaches_of_presented hs hbulk

end

/-- Settles O57: `count` captures of the value in data mode either way, and no record. -/
theorem bulkEqualsRepeats : Obligations.BulkEqualsRepeats := by
  intro s count value draw hinv hs hne hd hrs
  have hv := hinv.valid
  obtain ⟨hwr, -⟩ := hinv.sequencer.of_idle hs
  have hpos : count.toNat - 1 + 1 = count.toNat := Nat.succ_pred (BitVec.toNat_ne.mp hne)
  obtain ⟨k, hbulk⟩ := reaches_bulk hv hs hwr hd hrs count
  obtain ⟨k', hrepeats⟩ := reaches_repeats hv hs value (count.toNat - 1)
  refine ⟨k, _, k', _, hbulk, rfl, hrepeats, rfl, ?_, rfl⟩
  calc capturesSince draw s _
    _ = List.replicate count.toNat ⟨s.lines.rs, s.lines.d⟩ :=
      (capturesSince_of_trace draw rfl).trans (captures_pulses hv ..)
    _ = List.replicate (count.toNat - 1 + 1) ⟨some .high, some value⟩ := by
      rw [hd, hrs, hpos]
    _ = capturesSince draw s _ :=
      ((capturesSince_of_trace draw (List.append_assoc ..)).trans
        (captures_transaction_pulses hv ..)).symm

end Sys2Proof.Machine
end

/-! # `RAWXFER`, whole, and what it shares with repeated data writes (R180 to R183) -/

section
namespace Sys2Proof.Machine

/-! ## A good buffer (R181) -/

/-- No byte of a range of at least one element is a byte of the register at `r` (R181 (4)). -/
theorem clearOf_iff {b n r : Word} (hn : n ≠ 0) : clearOf b n r = true ↔
    ∀ x, b.toNat ≤ x → x < b.toNat + 2 * n.toNat → x ≠ r.toNat ∧ x ≠ r.toNat + 1 := by
  have hpos : n.toNat ≠ 0 := BitVec.toNat_ne.mp hn
  rw [clearOf, Bool.or_eq_true, decide_eq_true_iff, decide_eq_true_iff]
  constructor
  · omega
  · intro h
    have hfirst := h b.toNat
    have hregister := h r.toNat
    omega

/-- Settles O38: condition (4) register by register, the others as the test has them. -/
theorem bufferOkMeans : Obligations.BufferOkMeans := by
  intro c m b n hn
  simp only [bufferOK_iff, aligned2_iff, clearOf_iff hn, Option.isSome_iff_exists]
  constructor
  · rintro ⟨ha, hw, hdata, hset, hreset, hread⟩
    refine ⟨ha, hw, hread, fun x hlo hhi r hr => ?_⟩
    obtain rfl | rfl | rfl := hr
    · exact hdata x hlo hhi
    · exact hset x hlo hhi
    · exact hreset x hlo hhi
  · rintro ⟨ha, hw, hread, hclear⟩
    exact ⟨ha, hw, fun x hlo hhi => hclear x hlo hhi _ (.inl rfl),
      fun x hlo hhi => hclear x hlo hhi _ (.inr (.inl rfl)),
      fun x hlo hhi => hclear x hlo hhi _ (.inr (.inr rfl)), hread⟩

/-! ## What a row leaves (R180, R182) -/

theorem transaction_eng {i : Instr} {mode : BusMode} {x : Half} {ending : State → State}
    (hend : ∀ u, (ending u).eng = u.eng) (s : State) (r : TxStep) :
    (s.transaction i mode x ending r).eng = s.eng := by
  cases r with
  | latch => rfl
  | select => exact State.select_eng s mode
  | strobeLow => rfl
  | strobeHigh => exact hend _

theorem rawxferCheck_eng (s : State) (b n : Word) : (s.rawxferCheck b n).eng = s.eng := by
  unfold State.rawxferCheck
  split
  · split <;> rfl
  · rfl

theorem rawxferRead_eng {s t : State} {b n : Word} (h : s.rawxferRead b n = .next t) :
    t.eng = s.eng := by
  unfold State.rawxferRead at h
  split at h
  · cases h
  · split at h <;> cases h
    rfl

theorem rawxferNext_eng (s : State) (b n i : Word) (x : Half) :
    (s.rawxferNext b n i x).eng = s.eng := by
  unfold State.rawxferNext
  split <;> rfl

theorem rawxferTable_eng {s t : State} {m : MicroStep} {b n : Word}
    (h : s.rawxferTable b n m = .next t) : t.eng = s.eng := by
  unfold State.rawxferTable at h
  split at h
  · cases h; exact rawxferCheck_eng s b n
  · exact rawxferRead_eng h
  · unfold State.rawxferTx at h
    split at h <;> cases h
    exact transaction_eng (fun u => rawxferNext_eng u ..) s _
  · cases h

/-- Settles O32: no row of the table writes RST or the engine, and the rest is the frame of every
request. -/
theorem rawxferFrame : Obligations.RawxferFrame := by
  intro b n s t hv h
  obtain ⟨hcfg, hdir, hport, -, hmem⟩ := commonFrame _ s t h
  obtain ⟨m, -, htab⟩ := exec_next h
  exact ⟨rawxferTable_rst hv htab, rawxferTable_eng htab, hcfg, hdir, hport, hmem⟩

/-! ## Data transactions of a list of values (R142, R180) -/

/-- `s` after data transactions of the values `xs`, the last in the latch record, with the events
`es`. -/
def State.written (s : State) (es : List Event) (xs : List Half) : State :=
  { s with
    lines := { s.lines with d := xs.getLast?, rs := some .high, wr := some .high }
    ghost := ⟨xs.getLast?⟩
    trace := s.trace ++ es }

theorem dataWritten_eq_written (s : State) (x : Half) :
    s.dataWritten x = (s.written (transactionEvents s.cfg .data x) [x]).finish := rfl

/-! ## The elements of a buffer (R180, R182) -/

theorem elementAddress_zero (b : Word) : elementAddress b 0 = b := by
  simp [elementAddress]

theorem elementAddress_succ (b i : Word) : elementAddress b (i + 1) = elementAddress b i + 2 := by
  simp only [elementAddress]
  ring

theorem elements_succ {m : Memory} {a : Nat} {x : Half} (hx : m.read16 a = some x) (k : Nat) :
    m.elements a (k + 1) = x :: m.elements (a + 2) k := by
  rw [Memory.elements, hx]

/-- A good buffer of at least one element has a first one. -/
theorem bufferOK_elements_cons {c : BusContext} {m : Memory} {b n : Word} (hn : n ≠ 0)
    (hb : bufferOK c m b n = true) : ∃ x xs, m.elements b.toNat n.toNat = x :: xs := by
  obtain ⟨k, hk⟩ := Nat.exists_eq_add_one_of_ne_zero (BitVec.toNat_ne.mp hn)
  obtain ⟨x, hx⟩ := bufferOK_read (i := 0) hb (by rw [hk]; exact Nat.succ_pos k)
  rw [elementAddress_zero] at hx
  exact ⟨x, _, by rw [hk, elements_succ hx]⟩

/-- The values that are read element by element are the elements. -/
theorem elements_eq {m : Memory} {a : Nat} {xs : List Half}
    (h : ∀ i < xs.length, m.read16 (a + 2 * i) = xs[i]?) : m.elements a xs.length = xs := by
  induction xs generalizing a with
  | nil => rfl
  | cons x xs ih =>
    have hrest : ∀ i < xs.length, m.read16 (a + 2 + 2 * i) = xs[i]? := fun i hi => by
      rw [show a + 2 + 2 * i = a + 2 * (i + 1) by omega, h (i + 1) (Nat.succ_lt_succ hi)]
      rfl
    rw [List.length_cons, elements_succ (a := a) (h 0 (Nat.succ_pos _)), ih hrest]

/-- `s` after a `RAWXFER` of the elements `xs` from the address `a` on (R180). -/
def State.transferDone (s : State) (a : Word) (xs : List Half) : State :=
  (s.written (rawEvents s.cfg a xs) xs).clearRaw.finish

/-- `s` after the element `i` of a `RAWXFER(b, n)`, its value `x`, with the next one to be read
(R182). -/
def State.elementDone (s : State) (b n i : Word) (x : Half) : State :=
  { s.written (rawEvents s.cfg (elementAddress b i) [x]) [x] with
    raw := ⟨some (i + 1), some x⟩
    seq := .busy (.rawxfer b n) .read }

/-- The elements after the first are a transfer of their own. -/
theorem transferDone_elementDone (s : State) (b n i : Word) (x y : Half) (ys : List Half) :
    (s.elementDone b n i x).transferDone (elementAddress b (i + 1)) (y :: ys) =
      s.transferDone (elementAddress b i) (x :: y :: ys) := by
  rw [elementAddress_succ]
  simp [State.elementDone, State.transferDone, State.written, State.clearRaw, State.finish,
    rawEvents]

section
variable {s : State} {b n i : Word} (hv : s.cfg.valid = true)
include hv

/-- R140's four rows for the element last read; where the sequencer stands does not matter to what
comes after them. -/
theorem transactionRows_element {x : Half} (hi : s.raw.i = some i) (hx : s.raw.word = some x) :
    TransactionRows s (.rawxfer b n) .data x (State.rawxferNext b n i x) := by
  refine transactionRows hv (fun r => rawxferTx_some hi hx r) fun l e => ?_
  simp only [State.rawxferNext]
  split <;> rfl

/-- READ and the data transaction of one element. -/
theorem reaches_element {x : Half} (hs : s.seq = .busy (.rawxfer b n) .read)
    (hi : s.raw.i = some i) (hx : s.mem.read16 (elementAddress b i).toNat = some x) :
    Reaches s (if i.toNat + 1 < n.toNat then s.elementDone b n i x
      else s.transferDone (elementAddress b i) [x]) := by
  have htransaction := serve_transaction
    (s := (s.readElement (elementAddress b i) x).goto (.rawxfer b n) (.tx .data .latch))
    (fun _ _ _ => transactionRows_element (by exact hv) (by exact hi) (by rfl)) (.inl rfl)
  refine .head (step_row hs (rawxferRead_some hi hx)) ⟨4, (run_busy rfl 3).trans ?_⟩
  rw [htransaction, State.rawxferNext]
  split <;>
    simp [State.elementDone, State.transferDone, State.written, State.transferred, State.latched,
      State.rawIndex, State.goto, State.clearRaw, State.finish, rawEvents, BusMode.level]

/-- From READ(i) on a good buffer is transferred to its end, element by element. -/
theorem reaches_elements (hb : bufferOK s.cfg s.mem b n = true)
    (hs : s.seq = .busy (.rawxfer b n) .read) (hi : s.raw.i = some i) {k : Nat}
    (hk : i.toNat + k + 1 = n.toNat) :
    Reaches s (s.transferDone (elementAddress b i)
      (s.mem.elements (elementAddress b i).toNat (k + 1))) := by
  obtain ⟨x, hx⟩ := bufferOK_read (i := i) hb (by omega)
  rw [elements_succ hx]
  induction k generalizing s i x with
  | zero =>
    have helement := reaches_element hv hs hi hx
    rwa [if_neg (by omega)] at helement
  | succ k ih =>
    have helement := reaches_element hv hs hi hx
    rw [if_pos (by omega)] at helement
    have hsucc := element_succ_toNat (i := i) (n := n) (by omega)
    obtain ⟨y, hy⟩ := bufferOK_read (i := i + 1) hb (by omega)
    have hnext : (elementAddress b i).toNat + 2 = (elementAddress b (i + 1)).toNat := by
      rw [elementAddress_toNat hb (by omega), elementAddress_toNat hb (by omega), hsucc]; omega
    have hrest := ih (s := s.elementDone b n i x) hv hb rfl rfl (by omega) y hy
    rw [hnext, elements_succ hy, ← transferDone_elementDone s b n]
    exact helement.trans hrest

end

/-! ## The request in its three cases (R180) -/

section
variable {s : State} {b n : Word} (hs : s.seq = .idle)
include hs

theorem serve_rawxfer_none (b : Word) : s.serve (.rawxfer b 0) 1 = .next s.clearRaw.finish :=
  (serve_of_exec (exec_at (.inr ⟨hs, rfl⟩)) 0).trans
    (congrArg Host.Outcome.next (rawxferCheck_none s b))

theorem serve_rawxfer_bad (hn : n ≠ 0) (hb : bufferOK s.cfg s.mem b n = false) :
    s.serve (.rawxfer b n) 1 = .next (s.raise (.contractBuffer b n)).finish :=
  (serve_of_exec (exec_at (.inr ⟨hs, rfl⟩)) 0).trans
    (congrArg Host.Outcome.next (rawxferCheck_bad hn hb))

theorem serve_rawxfer_good (hv : s.cfg.valid = true) (hn : n ≠ 0)
    (hb : bufferOK s.cfg s.mem b n = true) : ∃ k, s.serve (.rawxfer b n) k =
      .next (s.transferDone b (s.mem.elements b.toNat n.toNat)) := by
  obtain ⟨k, hk⟩ := Nat.exists_eq_add_one_of_ne_zero (BitVec.toNat_ne.mp hn)
  have hcheck : exec (.rawxfer b n) s = .next ((s.rawIndex 0).goto (.rawxfer b n) .read) :=
    (exec_at (.inr ⟨hs, rfl⟩)).trans (congrArg Host.Outcome.next (rawxferCheck_good hn hb))
  have helements := reaches_elements (s := (s.rawIndex 0).goto (.rawxfer b n) .read) hv hb rfl rfl
    (k := k) (by simpa using hk.symm)
  rw [elementAddress_zero] at helements
  rw [hk]
  exact serve_of_reaches hcheck helements

end

/-! ## What the controller takes (R33, R145) -/

/-- One capture for each element, in data mode; a read is no edge of WR. -/
theorem captures_rawEvents {c : BusContext} (hv : c.valid = true) (draw : Nat → Bool) (m : Nat)
    (l : Lines) (a : Word) (xs : List Half) :
    capturesFrom draw c m l (rawEvents c a xs) = xs.map fun x => ⟨some .high, some x⟩ := by
  induction xs generalizing m l a with
  | nil => rfl
  | cons x xs ih =>
    calc capturesFrom draw c m l (rawEvents c a (x :: xs))
      _ = capturesFrom draw c (m + 1) l
          (transactionEvents c .data x ++ rawEvents c (a + 2) xs) := rfl
      _ = ⟨some .high, some x⟩ :: xs.map fun x => ⟨some .high, some x⟩ := by
        rw [capturesFrom_append, captures_transaction hv, ih]; rfl

/-- Settles O27: the contract test leaves one of three, and a good buffer is transferred element by
element. -/
theorem rawxferWhole : Obligations.RawxferWhole := by
  refine fun b n => ⟨fun s ⟨hv, hs, _⟩ => ⟨?none, ?bad, ?good⟩, decodeOfEncode (.rawxfer b n)⟩
  case none =>
    rintro rfl
    exact ⟨1, by rw [serve_rawxfer_none hs, State.finish, ← hs]; rfl⟩
  case bad =>
    intro hn hb
    exact ⟨1, by rw [serve_rawxfer_bad hs hn hb, State.finish, ← hs]; rfl⟩
  case good =>
    intro hn hb xs hlen hread
    obtain ⟨k, hserve⟩ := serve_rawxfer_good hs hv hn hb
    rw [← hlen] at hserve hread
    rw [elements_eq hread] at hserve
    refine ⟨⟨k, hserve.trans ?_⟩, fun draw m => captures_rawEvents hv draw m s.lines b xs⟩
    rw [State.transferDone, State.finish, ← hs]
    rfl

/-! ## The stream of `WRDATA`s (R183) -/

/-- `s` after `WRDATA`s of the values `xs`. -/
def State.dataStreamed (s : State) (xs : List Half) : State :=
  { s.written (xs.flatMap (transactionEvents s.cfg .data)) xs with
    seq := .idle
    reqIndex := s.reqIndex + xs.length }

theorem dataStreamed_dataWritten (s : State) (x y : Half) (ys : List Half) :
    (s.dataWritten x).dataStreamed (y :: ys) = s.dataStreamed (x :: y :: ys) := by
  simp [dataWritten_eq_written, State.dataStreamed, State.written, State.finish]
  omega

theorem reaches_dataWrite {s : State} (hv : s.cfg.valid = true) (hs : s.seq = .idle) (x : Half)
    (rest : List Word) :
    Reaches (s.withPort (encode (.wrdata x) ++ rest)) ((s.withPort rest).dataWritten x) :=
  reaches_of_presented hs (serve_wrdata (s := s.withPort rest) hv hs x)

theorem reaches_dataWrites {s : State} (hv : s.cfg.valid = true) (hs : s.seq = .idle) (x : Half)
    (xs : List Half) :
    Reaches (s.withPort (((x :: xs).map Instr.wrdata).flatMap encode))
      ((s.withPort []).dataStreamed (x :: xs)) := by
  induction xs generalizing s x with
  | nil => exact reaches_dataWrite hv hs x []
  | cons y ys ih =>
    rw [← dataStreamed_dataWritten]
    exact (reaches_dataWrite hv hs x _).trans (ih (s := s.dataWritten x) hv rfl y)

/-! ## The events of both (R180, R183) -/

theorem filter_transactionEvents (c : BusContext) (mode : BusMode) (x : Half) :
    (transactionEvents c mode x).filter (fun e => !e.isRead) = transactionEvents c mode x := by
  cases mode <;> rfl

/-- Apart from its reads, a raw transfer's events are those of a data transaction for each
element. -/
theorem filter_rawEvents (c : BusContext) (a : Word) (xs : List Half) :
    (rawEvents c a xs).filter (fun e => !e.isRead) = xs.flatMap (transactionEvents c .data) := by
  induction xs generalizing a with
  | nil => rfl
  | cons x xs ih =>
    calc (rawEvents c a (x :: xs)).filter (fun e => !e.isRead)
      _ = (transactionEvents c .data x ++ rawEvents c (a + 2) xs).filter (fun e => !e.isRead) := rfl
      _ = transactionEvents c .data x ++ xs.flatMap (transactionEvents c .data) := by
        rw [List.filter_append, filter_transactionEvents, ih]

/-- Settles O58: both streams leave what the data transactions of the elements leave, the raw
transfer with its reads between them. -/
theorem rawEqualsDataWrites : Obligations.RawEqualsDataWrites := by
  intro s b n hinv hs hn hb
  have hv := hinv.valid
  obtain ⟨x, xs, helements⟩ := bufferOK_elements_cons hn hb
  obtain ⟨_, hserve⟩ := serve_rawxfer_good (s := s.withPort []) hs hv hn hb
  rw [State.withPort_mem, helements] at hserve
  obtain ⟨k, hraw⟩ := reaches_of_presented hs hserve
  obtain ⟨k', hdata⟩ := reaches_dataWrites hv hs x xs
  rw [helements]
  refine ⟨k, _, k', _, hraw, rfl, hdata, rfl, rfl, rfl, rfl, ?_⟩
  calc ((s.trace ++ rawEvents s.cfg b (x :: xs)).drop s.trace.length).filter _
    _ = (rawEvents s.cfg b (x :: xs)).filter (fun e => !e.isRead) := by
      rw [List.drop_left]
      exact List.filter_congr fun e _ => by cases e <;> rfl
    _ = (x :: xs).flatMap (transactionEvents s.cfg .data) := filter_rawEvents ..
    _ = (s.trace ++ _).drop s.trace.length := List.drop_left.symm

end Sys2Proof.Machine
end

/-! # Faults and forbidden runs -/

section
namespace Sys2Proof.Machine

/-! ## Who records a fault (R202, R203) -/

/-- Settles O34: only a contract test records a fault in `exec`, and the tables of these four requests
have none. -/
theorem faultFreeRequests : Obligations.FaultFreeRequests := by
  intro i s t hi h
  obtain ⟨m, -, htab⟩ := exec_next h
  obtain hsame | ⟨rfl, -⟩ := (tableOf_row htab).records
  · exact hsame
  · obtain ⟨c, rfl⟩ | ⟨v, rfl⟩ | ⟨c, p, rfl⟩ | rfl := hi <;> cases htab

/-- Settles O54: the invariant holds along the run, and with it the order of the records. -/
theorem oneFaultPerRequest : Obligations.OneFaultPerRequest := by
  intro p variant port mem s t k hm hc hrun
  have hinv : t.Inv := (construct_inv hm hc).of_run hrun
  exact hinv.records.recordsUpTo

/-- Settles O8: the codes are the table's own. -/
theorem faultCodes : Obligations.FaultCodes :=
  ⟨fun _ => rfl, fun _ => rfl, fun _ _ _ _ => rfl, fun _ _ _ _ => rfl, fun _ _ => rfl, fun _ => rfl⟩

/-! ## Interleaving (R211 (2)) -/

/-- While the request `j` is in flight no table of another request is consulted. -/
theorem microStep_interleaved {s : State} {i j : Instr} {m : MicroStep} (hs : s.seq = .busy j m)
    (hne : j ≠ i) (first : MicroStep) (table : MicroStep → Host.Outcome State Fault Refusal) :
    s.microStep i first table = .refused .interleaved := by
  simp [State.microStep, hs, hne]

/-- Settles O11. -/
theorem interleavingHasNoMove : Obligations.InterleavingHasNoMove := by
  intro s i j m hs hne
  rw [exec_eq_microStep, microStep_interleaved hs hne]

end Sys2Proof.Machine
end

/-! # Inside a strobe pulse, and between requests (R225, R226, R227) -/

section
namespace Sys2Proof.Machine

/-- WR is low only within a request, before the micro-step that raises it (R226, R227). -/
theorem State.SeqOk.raisesStrobe_of_low {s : State} (h : s.SeqOk)
    (hlow : s.lines.wr = some .low) :
    ∃ i m, s.seq = .busy i m ∧ m.raisesStrobe = true := by
  cases hs : s.seq with
  | idle =>
    obtain ⟨hwr, -⟩ := h.of_idle hs
    simp [hlow] at hwr
  | busy i m =>
    obtain ⟨hwr, -⟩ := h.of_busy hs
    refine ⟨i, m, rfl, ?_⟩
    cases hm : m.raisesStrobe with
    | true => rfl
    | false => simp [hlow, hm] at hwr

/-- What the micro-step that raises the strobe shows on the bus is the rise and nothing else. -/
theorem BusMove.rise {m : MicroStep} {s t : State} (hb : BusMove m s t)
    (hv : s.cfg.valid = true) (hm : m.raisesStrobe = true) :
    t.trace = s.trace ++ [.cs s.cfg.writeStrobeMask] ∧
      t.lines = { s.lines with wr := some .high } := by
  obtain ⟨hno, -⟩ | ⟨e, -, hrise, htr, hl⟩ := hb
  · simp [hm] at hno
  · obtain rfl := hrise hm
    exact ⟨htr, hl.trans (driveHigh_wr hv s.lines)⟩

/-- Settles O50: WR is low only where the strobe is to be raised, and the row there raises it. -/
theorem nothingInsideAPulse : Obligations.NothingInsideAPulse := by
  intro s h hlow
  obtain ⟨i, m, hs, hm⟩ := h.sequencer.raisesStrobe_of_low hlow
  obtain ⟨t, hx, -⟩ := h.exec_seqOk (.inl hs)
  have hrow : Row i m s t := tableOf_row ((exec_at (.inl hs)).symm.trans hx)
  exact ⟨t, (step_busy hs).trans hx, hrow.bus.rise h.valid hm⟩

theorem Event.busHazard.low {c : BusContext} {l : Lines} {e : Event} (h : e.busHazard c l) :
    l.wr = some .low := by
  cases e with
  | dw v => exact h
  | cs m => exact h.1
  | cr m => exact h.1
  | read a v => exact h.elim
  | delay n => exact h.elim
  | cfg p m => exact h.elim

/-- The rise of the strobe does not touch RS (R101 (2)). -/
theorem not_busHazard_rise {c : BusContext} (hv : c.valid = true) (l : Lines) :
    ¬ (Event.cs c.writeStrobeMask).busHazard c l :=
  fun h => h.2 (masksApart hv).wr_rs

/-- Settles O49: a hazard needs WR low, and there the only event is the rise of the strobe. -/
theorem noBusHazard : Obligations.NoBusHazard := by
  intro s t e h hstep htr hhaz
  obtain ⟨u, hu, hrise, -⟩ := nothingInsideAPulse s h hhaz.low
  obtain rfl : u = t := by simpa [hstep] using hu.symm
  obtain rfl : e = .cs s.cfg.writeStrobeMask := by simpa [htr] using hrise
  exact not_busHazard_rise h.valid s.lines hhaz

/-- Settles O52: the invariant holds along the run and tells it for IDLE. -/
theorem idleHighBetweenRequests : Obligations.IdleHighBetweenRequests := by
  intro p variant port mem s t k hm hc hrun hidle
  obtain ⟨hwr, -⟩ := ((construct_inv hm hc).of_run hrun).sequencer.of_idle hidle
  exact hwr

end Sys2Proof.Machine
end

/-! # Every request ends in its steps (R231) -/

section
namespace Sys2Proof.Machine

/-- The request `i`, accepted at position `p` of the stream, is in flight or has just ended. -/
def State.Serving (s : State) (i : Instr) (p : Nat) : Prop :=
  (∃ m, s.seq = .busy i m ∧ s.reqIndex = p) ∨ (s.seq = .idle ∧ s.reqIndex = p + 1)

section
variable {s t : State} {i : Instr} {p : Nat}

theorem Row.serving {m : MicroStep} (h : Row i m s t) : t.Serving i s.reqIndex := by
  obtain ⟨u, hu, ⟨m', -, rfl⟩ | rfl⟩ := h
  · exact .inl ⟨m', rfl, hu.position⟩
  · exact .inr ⟨rfl, congrArg (· + 1) hu.position⟩

/-- A request in flight has a step left, so with none left it has ended. -/
theorem State.Serving.ended (hsv : s.Serving i p) (h : s.Inv) (hleft : s.stepsLeft = 0) :
    s.seq = .idle ∧ s.reqIndex = p + 1 := by
  obtain ⟨m, hs, -⟩ | hend := hsv
  · obtain ⟨t, hx, -⟩ := h.exec_seqOk (.inl hs)
    have hrow := h.exec_stepsLeft (.inl hs) hx
    rw [← stepsLeft_busy hs] at hrow
    omega
  · exact hend

/-- With a step left it is in flight. -/
theorem State.Serving.busy (hsv : s.Serving i p) (hleft : 0 < s.stepsLeft) :
    ∃ m, s.seq = .busy i m ∧ s.reqIndex = p := by
  obtain hbusy | ⟨hs, -⟩ := hsv
  · exact hbusy
  · simp [stepsLeft_idle hs] at hleft

/-- A request at one of its micro-steps answers: it is served on, takes one of its steps and no
words off the port. -/
theorem State.Inv.exec_serving {m : MicroStep} (h : s.Inv) (hat : s.AtStep i m) :
    ∃ u, exec i s = .next u ∧ u.Inv ∧ u.Serving i s.reqIndex ∧
      u.stepsLeft + 1 = s.stepsAt m i ∧ u.port = s.port := by
  obtain ⟨u, hx, -⟩ := h.exec_seqOk hat
  obtain ⟨_, -, hrow⟩ := exec_row hx
  exact ⟨u, hx, h.of_exec hx, hrow.serving, h.exec_stepsLeft hat hx, hrow.port⟩

/-- Each step the block makes for a request is one of the steps left. -/
theorem State.Serving.run_le {k : Nat} (hsv : s.Serving i p) (h : s.Inv) (hk : k ≤ s.stepsLeft) :
    ∃ t, run k s = .next t ∧ t.Inv ∧ t.Serving i p ∧ t.stepsLeft + k = s.stepsLeft ∧
      t.port = s.port := by
  induction k generalizing s with
  | zero => exact ⟨s, rfl, h, hsv, rfl, rfl⟩
  | succ k ih =>
    obtain ⟨m, hs, rfl⟩ := hsv.busy (by omega)
    obtain ⟨u, hx, hu, husv, huleft, huport⟩ := h.exec_serving (.inl hs)
    rw [← stepsLeft_busy hs] at huleft
    obtain ⟨t, hrun, ht, htsv, hleft, hport⟩ := ih husv hu (by omega)
    exact ⟨t, (run_row hs hx k).trans hrun, ht, htsv, by omega, hport.trans huport⟩

/-- The same from acceptance on, for a request at the front of the port: the steps are those of
R231. -/
theorem State.Inv.run_request {rest : List Word} {k : Nat} (h : s.Inv) (hs : s.seq = .idle)
    (hp : s.port = encode i ++ rest) (hpos : 0 < k) (hk : k ≤ s.stepsOf i) :
    ∃ t, run k s = .next t ∧ t.Inv ∧ t.Serving i s.reqIndex ∧ t.stepsLeft + k = s.stepsOf i ∧
      t.port = rest := by
  obtain ⟨j, rfl⟩ := Nat.exists_eq_succ_of_ne_zero hpos.ne'
  obtain ⟨u, hx, hu, husv, huleft, huport⟩ :=
    (h.withPort rest).exec_serving (i := i) (.inr ⟨hs, rfl⟩)
  rw [stepsAt_firstStep, show (s.withPort rest).stepsOf i = s.stepsOf i by cases i <;> rfl]
    at huleft
  obtain ⟨t, hrun, ht, htsv, hleft, hport⟩ := husv.run_le (k := j) hu (by omega)
  have hstep : step s = .next u := (step_accept hs (hp ▸ decodeOfEncode i rest)).trans hx
  exact ⟨t, (run_of_step hstep j).trans hrun, ht, htsv, by omega, hport.trans huport⟩

end

/-- Every request takes at least one step (R231). -/
theorem stepsOf_pos (s : State) (i : Instr) : 0 < s.stepsOf i := by
  cases i with
  | wrmulti n v => simp only [State.stepsOf]; omega
  | rawxfer b n => simp only [State.stepsOf]; split <;> omega
  | _ => exact Nat.succ_pos _

/-- Settles O55: along the run the steps made and the steps left are those of R231, and the request
is in flight exactly while steps are left. -/
theorem requestsEndInTheirSteps : Obligations.RequestsEndInTheirSteps := by
  intro s i rest h hs hp
  constructor
  · obtain ⟨t, hrun, ht, hsv, hleft, hport⟩ := h.run_request hs hp (stepsOf_pos s i) le_rfl
    obtain ⟨hidle, hpos⟩ := hsv.ended ht (by omega)
    exact ⟨t, hrun, hidle, hport, hpos⟩
  · intro k hk hlt
    obtain ⟨t, hrun, -, hsv, hleft, -⟩ := h.run_request hs hp hk hlt.le
    obtain ⟨m, hbusy, -⟩ := hsv.busy (by omega)
    exact ⟨t, m, hrun, hbusy⟩

end Sys2Proof.Machine
end
